-- ==== Sys2Proof/Word.lean ====
section
/-! DEFINITION. Word.lean: the words of the part (01_frame_and_record_formats.md, R1 to R19) as bit vectors, by the width
the manual gives them. -/

namespace Sys2Proof

/-- One byte of a frame, bit 7 the most significant (R1). -/
abbrev Byte := BitVec 8

/-- A 24-bit stream key (R2, R6). -/
abbrev Key := BitVec 24

/-- A 16-bit sequence number; its arithmetic is modulo 65536 (R4, R47). -/
abbrev Seq := BitVec 16

/-- A generation number, 0 to 65535, which passes from 65535 to 0 (R16, R28). -/
abbrev Gen := BitVec 16

/-- A 32-bit counter (R204), a manager's token (R10), a CRC-32 (R7) or the time count (R19). -/
abbrev Word32 := BitVec 32

end Sys2Proof
end

