-- ==== Sys2Proof/Syntax.lean ====
section
/-! DEFINITION. Syntax.lean: the commands of the part, one constructor of `Instr` for each row of spec/opcode_table.json,
and the names their operands use. A command that takes a message of another block carries what picks that message out
(log 1, 8); its contents are the state's. -/

namespace Sys2Proof

/-- The three frame ports (00, "Ports and pins"). -/
inductive Port | l0 | l1 | t
  deriving DecidableEq, Repr

/-- The two lanes of the trunk. -/
inductive Lane | l0 | l1
  deriving DecidableEq, Repr

/-- A link state or a link indication (R133). -/
inductive Link | down | up
  deriving DecidableEq, Repr

/-- A frame's priority, 3 the highest (R2, R139). -/
inductive Class | c0 | c1 | c2 | c3
  deriving DecidableEq, Repr

/-- The active or the shadow bank of a table (R12). -/
inductive Bank | active | shadow
  deriving DecidableEq, Repr

/-- The blocks of the part (00, "Blocks"). -/
inductive Block | receiver (p : Port) | classifier | merge | replicator | admission | egress | agent
  deriving DecidableEq, Repr

/-- What the agent asks a read for: a request in hand (R169), a check (R188), or a commit's preferred lane (R193). -/
inductive Purpose | request | check | commit
  deriving DecidableEq, Repr

/-- An entry of one of the admission unit's two tables (R112). -/
inductive TableEntry | policer (i : Fin 64) | pool (i : Fin 8)
  deriving DecidableEq, Repr

/-- One read of a check (R188). -/
inductive CheckRead
  | records | unknownPool | policer (i : Fin 64) | pool (i : Fin 8) | limit (p : Port) (c : Class)
  deriving DecidableEq, Repr

/-- A recovery record: that of an inbound key, or the fixed management one (R46). -/
inductive RecordSel | key (k : Key) | management
  deriving DecidableEq, Repr

/-- The seven kinds of notice (R18, R210). -/
inductive NoticeKind
  | laneChange | unknownStream | poolExhausted | holdExhausted | streamReset | crossedLane | sessionEnd
  deriving DecidableEq, Repr

/-- The commands: one constructor per row of spec/opcode_table.json, in the table's order. -/
inductive Instr
  -- whole part and receivers
  /-- The reset pin or power-up, with the strap levels and link indications at that moment (R44, R138, R154). -/
  | powerOnReset (straps : Byte) (l0 l1 t : Link)
  /-- The link indication of `p` takes the value `st` (R137). -/
  | linkChange (p : Port) (st : Link)
  /-- A frame start on `p`; `bytes` are what the line presents from it to the next event of the port (R134, log 5). -/
  | frameStart (p : Port) (bytes : List Byte)
  /-- The frame end on `p`, with the error qualifier or without (R135). -/
  | frameEnd (p : Port) (err : Bool)
  | timeCountTick
  -- classifier
  | classify (p : Port)
  | classifierLinkChange (l : Lane)
  | classifierShadowCreate
  | classifierShadowDiscard
  | recordWrite
  | removal
  | emptyBankWrite
  | deviceWrite
  | recordRead
  | classifierEntryRead (u : Purpose)
  | nextRead (u : Purpose)
  | classifierSwap
  | classifierCounterRead
  | classifierTrafficRestart
  | classifierFullRestart
  -- merge engine
  | takeDirectoryArrival
  | takeUnknownArrival
  | takeManagementArrival
  | mergeGrantAnswer
  | mergePlacementAnswer
  | managementPlacementAnswer
  /-- The answer to the release enqueue of the frame record numbered `frame`. -/
  | releaseEnqueueAnswer (frame : Nat)
  | silenceExpiry (r : RecordSel)
  | holdTimerExpiry (k : Key)
  | mergeReconciliationRequest
  | mergeReconcileKey
  | holdStateRead
  | mergeCounterRead
  | mergeTrafficRestart
  | mergeFullRestart
  -- admission unit
  /-- The grant request of the merge engine or of the replicator. -/
  | grantRequest (who : Block)
  /-- The reserve grant request of the replicator or of the agent. -/
  | reserveGrantRequest (who : Block)
  | refillExpiry
  /-- The copy-add of the copy place numbered `place`. -/
  | copyAdd (place : Nat)
  /-- A release of the frame record numbered `frame`. -/
  | referenceRelease (frame : Nat)
  | releaseWatch
  | admissionShadowCreate
  | admissionShadowDiscard
  | policerWrite
  | poolWrite
  | admissionEntryRead (u : Purpose) (e : TableEntry)
  | admissionStateRead
  | admissionCounterRead
  /-- The create of the over-rate and no-buffer entry of `k`, asked by the merge engine or the replicator. -/
  | counterEntryCreate (who : Block) (k : Key)
  | counterEntryDelete (who : Block) (k : Key)
  | admissionSwap
  | admissionTrafficRestart
  | admissionFullRestart
  -- replicator
  | replicatorReconciliationRequest
  | replicatorReconcileKey
  | replicatorLinkChange (l : Lane)
  | takeDirectoryDeparture
  | takeUnknownDeparture
  | takeHandoff
  | replicatorGrantAnswer
  | replicatorReserveGrantAnswer
  | replicatorEnqueueAnswer (l : Lane)
  | replicatorCounterRead
  | replicatorTrafficRestart
  | replicatorFullRestart
  -- egress unit
  /-- The next enqueue request of the merge engine, the replicator or the agent (R140, R142). -/
  | enqueueRequest (who : Block)
  | copyAddAnswer (place : Nat)
  /-- A completion on `p` naming the transmission numbered `tx` (R145). -/
  | transmitCompletion (p : Port) (tx : Nat)
  | egressLinkDown (p : Port)
  | egressLinkUp (p : Port)
  | egressShadowCreate
  | egressShadowDiscard
  | queueWrite
  | egressEntryRead (u : Purpose) (p : Port) (c : Class)
  | egressSwap
  | egressCounterRead
  | egressTrafficRestart
  | egressFullRestart
  -- reads and restart of the receivers
  | linkStateRead (p : Port)
  | receiverCounterRead (p : Port)
  | receiverFullRestart (p : Port)
  -- agent: the request queue and the requests, each the take of the head entry
  | requestPlacement
  | unknownKindRequest
  | openSession
  | closeSession
  | putDirectory
  | putPolicers
  | putPools
  | putQueues
  | putDevice
  | dropKeys
  | clearBank
  | abandon
  | checkShadow
  | commit
  | readDirectory
  | readPolicers
  | readPools
  | readQueues
  | readDevice
  | readNext
  | readStatsKey
  | readStatsPort
  | readStatsDevice
  | status
  | restartTraffic
  | restartFull
  -- agent: answers, reports, timers and notices
  | shadowCreateAnswer (b : Block)
  | shadowWriteAnswer (b : Block)
  | shadowDiscardAnswer (b : Block)
  | ownerReadAnswer (b : Block)
  | checkReadAnswer (r : CheckRead)
  | preferredLaneAnswer
  | swapReport
  | swapDone (b : Block)
  | reconciliationDone (b : Block)
  | agentReserveGrantAnswer
  | agentEnqueueAnswer
  | handoffAnswer
  | watchReturned
  | restartDone (b : Block)
  | sessionTimerExpiry
  /-- A raise of `kind` with `detail` that a block has sent (R210). -/
  | noticeRaise (kind : NoticeKind) (detail : Word32)
  | pacingExpiry
  deriving DecidableEq, Repr

end Sys2Proof
end

