-- ==== Sys2Proof/Config.lean ====
section
/-! DEFINITION. Config.lean: the numbers the manual fixes for the part. The manual leaves no value of a result open, so
there is no free value here (INVENTORY.md, "What the manual leaves open"). -/

namespace Sys2Proof.Config

/-- Records a directory bank holds at most (R23). -/
abbrev bankRecords : Nat := 384

/-- Entries of the merge input queue (R50), the replicator input queue (R120) and the agent request queue (R155). -/
abbrev mergeQueue : Nat := 16
abbrev replicatorQueue : Nat := 8
abbrev requestQueue : Nat := 4

/-- Bytes of a staging buffer and the number of buffers (R1, R133). -/
abbrev stagingBytes : Nat := 1536
abbrev stagingBuffers : Nat := 37

/-- Largest payload length of a well-formed header (R3). -/
abbrev payloadMax : Nat := 1516

/-- Hold entries of the hold table (R78). -/
abbrev holdEntries : Nat := 1024

/-- Blocks of frame memory, bytes of a block, and blocks of the management reserve (R101, R103). -/
abbrev blocks : Nat := 2048
abbrev blockBytes : Nat := 256
abbrev reserveBlocks : Nat := 16

/-- Largest sum of the pool quotas (R102). -/
abbrev quotaSum : Nat := 2032

/-- Descriptor slots of a port, and the largest sum of its limits (R139, R189). -/
abbrev slots : Nat := 160

/-- Limit of each class queue after a power-on reset and a FULL restart (R151). -/
abbrev defaultLimit : Nat := 40

/-- The fixed parameters of the management recovery record: window, rogue threshold, silence time in ms (R71). -/
abbrev managementWindow : Nat := 32
abbrev managementRogue : Nat := 8
abbrev managementSilence : Nat := 2000

/-- Largest consecutive-rogue count (R59). -/
abbrev rogueMax : Nat := 255

/-- Largest occurrence count of a notice entry (R210). -/
abbrev occurrenceMax : Nat := 65535

end Sys2Proof.Config
end

