-- ==== Sys2Proof/Machine/State.lean ====
section
/-! DEFINITION. State.lean: the state of the part, block by block, as plain data, the messages between the blocks, and the
state right after power-on reset. INVENTORY.md, "State", lists every field with its rule. -/

namespace Sys2Proof.Machine

/-! ## Collections with one entry for each port, lane or class -/

/-- One value for each of the ports L0, L1 and T. -/
structure PerPort (α : Type) where
  l0 : α
  l1 : α
  t : α
  deriving DecidableEq, Repr

/-- One value for each lane. -/
structure PerLane (α : Type) where
  l0 : α
  l1 : α
  deriving DecidableEq, Repr

/-- One value for each class (R139). -/
structure PerClass (α : Type) where
  c0 : α
  c1 : α
  c2 : α
  c3 : α
  deriving DecidableEq, Repr

/-! ## Configuration records (R20 to R22) -/

/-- A record's class: a fixed one, or KEEP (R20). -/
inductive ClassSel | fixed (c : Class) | keep
  deriving DecidableEq, Repr

/-- Delivery mode of an inbound record; the hold time H, in units of 10 µs, is present in IN-ORDER only (R21). -/
inductive Mode | passFirst | inOrder (hold : Nat)
  deriving DecidableEq, Repr

/-- Direction of a stream (R20). -/
inductive Direction | inbound | outbound
  deriving DecidableEq, Repr

/-- The fields present in an INBOUND record alone (R21). -/
structure InFields where
  mode : Mode
  strip : Bool
  window : Nat
  rogue : Nat
  silence : Nat
  deriving DecidableEq, Repr

/-- The replication mask, present in an OUTBOUND record alone (R21). -/
structure OutFields where
  l0 : Bool
  l1 : Bool
  deriving DecidableEq, Repr

/-- The direction of a record with the fields that direction uses. -/
inductive DirFields | inbound (f : InFields) | outbound (f : OutFields)
  deriving DecidableEq, Repr

/-- A directory record (R20, R21); an absent field has no value. -/
structure DirRecord where
  key : Key
  fields : DirFields
  policer : Option (Fin 64)
  pool : Fin 8
  cls : ClassSel
  deriving DecidableEq, Repr

/-- A record's direction. -/
def DirRecord.direction (r : DirRecord) : Direction :=
  match r.fields with
  | .inbound _ => .inbound
  | .outbound _ => .outbound

/-- A staged policer entry (R21). -/
structure PolicerEntry where
  index : Fin 64
  enabled : Bool
  ceiling : Nat
  refill : Nat
  deriving DecidableEq, Repr

/-- A staged pool entry (R21). -/
structure PoolEntry where
  index : Fin 8
  quota : Nat
  deriving DecidableEq, Repr

/-- A staged queue entry (R21). -/
structure QueueEntry where
  port : Port
  cls : Class
  limit : Nat
  deriving DecidableEq, Repr

/-- Unknown-inbound policy (R22). -/
inductive UnknownIn | discard | preferredLane | all
  deriving DecidableEq, Repr

/-- Unknown-outbound policy (R22). -/
inductive UnknownOut | discard | preferredLane
  deriving DecidableEq, Repr

/-- Notice destination (R22); `off` is NONE. -/
inductive NoticeDest | off | tributary | lanes
  deriving DecidableEq, Repr

/-- A device entry: one device parameter with its value (R22). -/
inductive DeviceEntry
  | unknownInbound (v : UnknownIn)
  | preferredLane (v : Lane)
  | unknownOutbound (v : UnknownOut)
  | unknownPool (v : Fin 8)
  | noticeDestination (v : NoticeDest)
  | noticeInterval (ms : Nat)
  | sessionTimeout (s : Nat)
  | managementClass (v : Class)
  deriving DecidableEq, Repr

/-- The eight device parameters (R22). -/
structure DeviceParams where
  unknownInbound : UnknownIn
  preferredLane : Lane
  unknownOutbound : UnknownOut
  unknownPool : Fin 8
  noticeDestination : NoticeDest
  noticeInterval : Nat
  sessionTimeout : Nat
  managementClass : Class
  deriving DecidableEq, Repr

/-- The defaults of R22. -/
def DeviceParams.default : DeviceParams :=
  { unknownInbound := .preferredLane, preferredLane := .l0, unknownOutbound := .discard, unknownPool := 0,
    noticeDestination := .off, noticeInterval := 100, sessionTimeout := 30, managementClass := .c3 }

/-- The agent's copy of the four device parameters it uses (R27). -/
structure AgentParams where
  noticeDestination : NoticeDest
  noticeInterval : Nat
  sessionTimeout : Nat
  managementClass : Class
  deriving DecidableEq, Repr

/-- The four agent-used parameters of a set (R27). -/
def DeviceParams.agentPart (p : DeviceParams) : AgentParams :=
  { noticeDestination := p.noticeDestination, noticeInterval := p.noticeInterval,
    sessionTimeout := p.sessionTimeout, managementClass := p.managementClass }

/-- What a commit did to a key, with the key's new record where there is one (R42). -/
inductive ChangeCat
  | removed
  | added (r : DirRecord)
  | recoveryChanged (r : DirRecord)
  | otherChanged (r : DirRecord)
  deriving DecidableEq, Repr

/-- An entry of the change list (R42). -/
structure ChangeEntry where
  key : Key
  cat : ChangeCat
  deriving DecidableEq, Repr

/-! ## Requests (R10 to R13) -/

/-- The two kinds of restart (R12). -/
inductive RestartKind | traffic | full
  deriving DecidableEq, Repr

/-- A well-formed request, its operands decoded (R12). -/
inductive Req
  | openSession
  | closeSession
  | putDirectory (rs : List DirRecord)
  | putPolicers (es : List PolicerEntry)
  | putPools (es : List PoolEntry)
  | putQueues (es : List QueueEntry)
  | putDevice (es : List DeviceEntry)
  | dropKeys (ks : List Key)
  | clearBank
  | abandon
  | checkShadow
  | commit (digest : Word32)
  | readDirectory (b : Bank) (k : Key)
  | readPolicer (b : Bank) (i : Fin 64)
  | readPool (b : Bank) (i : Fin 8)
  | readQueue (b : Bank) (p : Port) (c : Class)
  | readDevice (b : Bank) (i : Fin 8)
  | readNext (b : Bank) (start : Key) (limit : Nat)
  | statsKey (k : Key) (clear : Bool)
  | statsPort (p : Port) (clear : Bool)
  | statsDevice (clear : Bool)
  | status
  | restart (k : RestartKind)
  deriving DecidableEq, Repr

/-! ## Queue entries (R30) -/

/-- A directory arrival (R30). -/
structure DirArrival where
  key : Key
  seq : Seq
  restart : Bool
  cls : Class
  len : Nat
  gen : Gen
  buf : List Byte
  deriving DecidableEq, Repr

/-- A management arrival (R30). -/
structure MgmtArrival where
  lane : Lane
  seq : Seq
  restart : Bool
  cls : Class
  len : Nat
  gen : Gen
  buf : List Byte
  deriving DecidableEq, Repr

/-- An unknown arrival (R30): sequence and restart flag are absent. -/
structure UnkArrival where
  key : Key
  lane : Lane
  cls : Class
  len : Nat
  pool : Fin 8
  gen : Gen
  buf : List Byte
  deriving DecidableEq, Repr

/-- An entry of the merge input queue. -/
inductive MergeEntry | directory (a : DirArrival) | management (a : MgmtArrival) | unknown (a : UnkArrival)
  deriving DecidableEq, Repr

/-- A directory departure (R30). -/
structure DirDeparture where
  key : Key
  cls : Class
  len : Nat
  gen : Gen
  buf : List Byte
  deriving DecidableEq, Repr

/-- An unknown departure (R30). -/
structure UnkDeparture where
  key : Key
  cls : Class
  len : Nat
  pool : Fin 8
  gen : Gen
  buf : List Byte
  deriving DecidableEq, Repr

/-- An entry of the replicator input queue. -/
inductive RepEntry | directory (d : DirDeparture) | unknown (d : UnkDeparture)
  deriving DecidableEq, Repr

/-- An entry of the agent request queue (R155): arriving side, payload length, staging buffer. -/
structure RequestEntry where
  side : Port
  len : Nat
  buf : List Byte
  deriving DecidableEq, Repr

/-! ## Messages between blocks -/

/-- A frame reference: the frame record and the restart count under which it was granted (R107). -/
structure FrameRef where
  id : Nat
  restart : Nat
  deriving DecidableEq, Repr

/-- A grant request (R104). `hand` numbers the requester's handling, so that a late answer is known (log 7). -/
structure GrantReq where
  who : Block
  hand : Nat
  stream : Option Key
  len : Nat
  policer : Option (Fin 64)
  pool : Fin 8
  deriving DecidableEq, Repr

/-- The answer to a grant request (R104). -/
inductive GrantResult | granted (ref : FrameRef) | overRate | noBuffer
  deriving DecidableEq, Repr

/-- Whose enqueue it is, so that the answer finds its asker (R141): the merge engine's delivery or release, one of the
replicator's lane copies, or the agent's output. -/
inductive EnqTag
  | delivery (hand : Nat)
  | release (key : Key) (born : Nat)
  | lane (hand : Nat) (l : Lane)
  | output
  deriving DecidableEq, Repr

/-- The enqueuer of a tag (R140). -/
def EnqTag.sender : EnqTag → Block
  | .delivery _ => .merge
  | .release _ _ => .merge
  | .lane _ _ => .replicator
  | .output => .agent

/-- An enqueue request: port, class and the copy's contents (R140). -/
structure Enqueue where
  port : Port
  cls : Class
  ref : FrameRef
  mark : Option Lane
  strip : Bool
  tag : EnqTag
  deriving DecidableEq, Repr

/-- The answer to an enqueue request (R140, R141). -/
inductive EnqResult | placed | down | full | void
  deriving DecidableEq, Repr

/-- A copy-add for the place numbered `place` (R108, R141). -/
structure CopyReq where
  place : Nat
  port : Port
  ref : FrameRef
  tag : EnqTag
  deriving DecidableEq, Repr

/-- A block's answer to a shadow write (R26, R111, R148). -/
inductive WriteResult | done | shadowFull | notFound (i : Nat) | noShadow
  deriving DecidableEq, Repr

/-- Which counters a counter read names (R208). -/
inductive CounterQuery | key (k : Key) (d : Direction) | device | port (p : Port)
  deriving DecidableEq, Repr

/-- A block's answer to a read of the agent (R24, R112, R137, R148, R171, R172). -/
inductive ReadAnswer
  | noShadow
  | noRecord
  | record (r : DirRecord)
  | records (rs : List DirRecord)
  | device (e : DeviceEntry)
  | policer (e : PolicerEntry) (credit : Option Nat)
  | pool (e : PoolEntry)
  | limit (e : QueueEntry)
  | link (st : Link)
  | memory (free : Nat) (reserve : Nat) (pools : Vector Nat 8)
  | holds (n : Nat)
  | noSet
  | counters (cs : List Word32)
  deriving DecidableEq, Repr

/-- The classifier's swap report (R41). -/
structure SwapReport where
  gen : Gen
  params : AgentParams
  changes : List ChangeEntry
  deriving DecidableEq, Repr

/-- The replicator's answer to a handoff (R127, R128, R132). -/
inductive HandoffResult | sent (ref : FrameRef) (copies : Nat) | unsent | abandoned
  deriving DecidableEq, Repr

/-- A message that one block has sent and another has not yet taken. -/
inductive Msg
  -- link-change events (R137) and notice raises (R210)
  | linkClassifier (l : Lane) (st : Link)
  | linkReplicator (l : Lane) (st : Link)
  | linkEgress (p : Port) (st : Link)
  | notice (k : NoticeKind) (d : Word32)
  -- the agent's staging, reads, swaps, restarts and watch
  | shadowCreate (b : Block)
  | shadowDiscard (b : Block)
  | recordWrite (rs : List DirRecord)
  | removal (ks : List Key)
  | emptyBank
  | deviceWrite (es : List DeviceEntry)
  | policerWrite (es : List PolicerEntry)
  | poolWrite (es : List PoolEntry)
  | queueWrite (es : List QueueEntry)
  | recordRead (b : Bank) (k : Key)
  | deviceRead (u : Purpose) (b : Bank) (i : Fin 8)
  | nextRead (u : Purpose) (b : Bank) (start : Key) (limit : Nat)
  | entryRead (u : Purpose) (b : Bank) (e : TableEntry)
  | limitRead (u : Purpose) (b : Bank) (p : Port) (c : Class)
  | stateRead (b : Block)
  | counterRead (b : Block) (q : CounterQuery) (clear : Bool)
  | swap (b : Block)
  | restart (b : Block) (k : RestartKind)
  | watch (ref : FrameRef)
  | reconcile (b : Block) (gen : Gen) (changes : List ChangeEntry) (preferred : Lane)
  -- requests to the admission unit and their answers
  | grant (q : GrantReq)
  | grantAns (who : Block) (hand : Nat) (r : GrantResult)
  | reserveGrant (who : Block) (hand : Nat) (len : Nat)
  | reserveAns (who : Block) (hand : Nat) (ref : Option FrameRef)
  | copyAdd (c : CopyReq)
  | copyAddAns (c : CopyReq) (held : Bool)
  | release (ref : FrameRef)
  | countCreate (who : Block) (k : Key)
  | countDelete (who : Block) (k : Key)
  -- enqueues and request placements and their answers
  | enqueue (e : Enqueue)
  | enqueueAns (tag : EnqTag) (ref : FrameRef) (r : EnqResult)
  | placement (hand : Nat) (e : RequestEntry)
  | placementAns (hand : Nat) (ok : Bool)
  -- answers and reports to the agent
  | shadowCreateAns (b : Block) (created : Bool)
  | shadowWriteAns (b : Block) (r : WriteResult)
  | shadowDiscardAns (b : Block)
  | readAns (b : Block) (a : ReadAnswer)
  | checkAns (r : CheckRead) (a : ReadAnswer)
  | laneAns (a : ReadAnswer)
  | swapReport (r : Option SwapReport)
  | swapDone (b : Block) (ok : Bool)
  | reconcileDone (b : Block)
  | handoffAns (r : HandoffResult)
  | watchReturned
  | restartDone (b : Block)
  deriving DecidableEq, Repr

/-! ## Receivers (R133) -/

/-- A frame in reception: the bytes stored, and the length counted with the bytes beyond 1536 (R134). -/
structure Reception where
  bytes : List Byte
  length : Nat
  deriving DecidableEq, Repr

/-- A port receiver (R133). -/
structure Receiver where
  link : Link
  reception : Option Reception
  awaiting : Option (List Byte)
  received : Word32
  badCheck : Word32
  badLength : Word32
  overrun : Word32
  deriving DecidableEq, Repr

/-- A receiver at power-on reset, its link state latched as `st` (R138). -/
def Receiver.powerOn (st : Link) : Receiver :=
  { link := st, reception := none, awaiting := none, received := 0, badCheck := 0, badLength := 0, overrun := 0 }

/-! ## Classifier (R23 to R45) -/

/-- The classifier's shadow: bank and device parameters together (R25). -/
structure ClassifierShadow where
  bank : List DirRecord
  params : DeviceParams
  deriving DecidableEq, Repr

/-- The device counters the classifier raises (R44). -/
structure ClassifierCounts where
  badHeader : Word32
  noTrail : Word32
  strayTrail : Word32
  crossed : PerLane Word32
  wrongDirection : Word32
  unknownInbound : Word32
  unknownOutbound : Word32
  requestOverrun : Word32
  deriving DecidableEq, Repr

/-- The classifier's counters at zero. -/
def ClassifierCounts.zero : ClassifierCounts :=
  { badHeader := 0, noTrail := 0, strayTrail := 0, crossed := ⟨0, 0⟩, wrongDirection := 0, unknownInbound := 0,
    unknownOutbound := 0, requestOverrun := 0 }

/-- The classifier. -/
structure Classifier where
  bank : List DirRecord
  params : DeviceParams
  gen : Gen
  shadow : Option ClassifierShadow
  links : PerLane Link
  counts : ClassifierCounts
  overrun : PerPort Word32
  deriving DecidableEq, Repr

/-- The classifier at power-on reset, with the lanes' latched link states (R44). -/
def Classifier.powerOn (links : PerLane Link) : Classifier :=
  { bank := [], params := .default, gen := 0, shadow := none, links := links, counts := .zero, overrun := ⟨0, 0, 0⟩ }

/-! ## Merge engine (R46 to R96) -/

/-- State of a window position (R48); `vacant` is OPEN. -/
inductive Pos | vacant | accepted | waived
  deriving DecidableEq, Repr

/-- A hold entry (R77): sequence, frame reference, deadline in periods of 10 µs, and the stored frame's header class,
which KEEP reads at release (log 14). -/
structure Held where
  seq : Seq
  ref : FrameRef
  deadline : Nat
  cls : Class
  deriving DecidableEq, Repr

/-- What IN-ORDER adds to a TRACKING record: next-release N, hold list in ascending order from N, hold timer (R76, R77, R86). -/
structure Ordered where
  nxt : Seq
  held : List Held
  timer : Option Nat
  deriving DecidableEq, Repr

/-- A TRACKING record (R46): lead L; the window, whose index `i` is position L − i; the silence timer's expiry when it
runs, in milliseconds; and the IN-ORDER part. -/
structure Tracking where
  lead : Seq
  window : List Pos
  silence : Option Nat
  ordered : Option Ordered
  deriving DecidableEq, Repr

/-- A recovery record (R46): FRESH when `tracking` is absent. `born` tells two records of one key apart (log 7). -/
structure Recovery where
  born : Nat
  rogue : Nat
  tracking : Option Tracking
  deriving DecidableEq, Repr

/-- A FRESH record (R46). -/
def Recovery.fresh (born : Nat) : Recovery := { born := born, rogue := 0, tracking := none }

/-- The merge engine's parameters of an inbound key (R49). -/
structure InParams extends InFields where
  policer : Option (Fin 64)
  pool : Fin 8
  cls : ClassSel
  deriving DecidableEq, Repr

/-- The nine counters of an inbound stream that the merge engine owns (R73, R205). -/
structure InCounts where
  passed : Word32
  duplicate : Word32
  late : Word32
  outOfWindow : Word32
  lost : Word32
  resets : Word32
  withdrawnHeld : Word32
  noHold : Word32
  queueFull : Word32
  deriving DecidableEq, Repr

/-- Inbound counters at zero. -/
def InCounts.zero : InCounts :=
  { passed := 0, duplicate := 0, late := 0, outOfWindow := 0, lost := 0, resets := 0, withdrawnHeld := 0, noHold := 0,
    queueFull := 0 }

/-- An inbound key at the merge engine: parameters, recovery record and counters, created and deleted together (R46, R73). -/
structure Stream where
  key : Key
  params : InParams
  recov : Recovery
  counts : InCounts
  deriving DecidableEq, Repr

/-- The verdict on a candidate with the destination decided at it (R56 to R58, R79). -/
inductive Verdict | takeAny | deliver | hold
  deriving DecidableEq, Repr

/-- The entry in hand at the merge engine (R51). `ref` is absent until the grant. -/
inductive MergeHand
  | directory (a : DirArrival) (v : Verdict) (ref : Option FrameRef)
  | unknown (a : UnkArrival) (ref : Option FrameRef)
  | management (a : MgmtArrival) (v : Verdict)
  deriving DecidableEq, Repr

/-- An event deferred past an entry in hand (R51). -/
inductive MergeDeferred | silence (r : RecordSel) | hold (k : Key) | request | reconcileStep
  deriving DecidableEq, Repr

/-- The merge engine. -/
structure Merge where
  streams : List Stream
  gen : Gen
  mgmt : Recovery
  mgmtCounts : InCounts
  withdrawn : Word32
  queue : List MergeEntry
  hand : Option MergeHand
  handNo : Nat
  deferred : List MergeDeferred
  pending : List ChangeEntry
  bornNo : Nat
  deriving DecidableEq, Repr

/-- The merge engine at power-on reset (R74). -/
def Merge.powerOn : Merge :=
  { streams := [], gen := 0, mgmt := .fresh 0, mgmtCounts := .zero, withdrawn := 0, queue := [], hand := none,
    handNo := 0, deferred := [], pending := [], bornNo := 0 }

/-! ## Admission unit (R97 to R117) -/

/-- An entry of the active policer table (R97). -/
structure Policer where
  enabled : Bool
  ceiling : Nat
  refill : Nat
  credit : Nat
  deriving DecidableEq, Repr

/-- An entry of the shadow policer table, which has no credit (R111). -/
structure PolicerCfg where
  enabled : Bool
  ceiling : Nat
  refill : Nat
  deriving DecidableEq, Repr

/-- Where a frame record's blocks come from (R107). -/
inductive Source | pool (i : Fin 8) | reserve
  deriving DecidableEq, Repr

/-- A frame record (R107) with the stored bytes of its frame (empty until they are written) and the agent's watch (R174). -/
structure FrameRec where
  id : Nat
  source : Source
  blocks : Nat
  count : Nat
  bytes : List Byte
  watch : Bool
  deriving DecidableEq, Repr

/-- The over-rate and no-buffer counters of a key and direction (R105, R206). -/
structure KeyCount where
  key : Key
  dir : Direction
  overRate : Word32
  noBuffer : Word32
  deriving DecidableEq, Repr

/-- The admission unit's shadow (R111). -/
structure AdmissionShadow where
  policers : Vector PolicerCfg 64
  quotas : Vector Nat 8
  deriving DecidableEq, Repr

/-- The admission unit. `nextId` numbers the next frame record (log 7). -/
structure Admission where
  policers : Vector Policer 64
  quotas : Vector Nat 8
  inUse : Vector Nat 8
  reserve : Nat
  free : Nat
  records : List FrameRec
  nextId : Nat
  restarts : Nat
  shadow : Option AdmissionShadow
  counts : List KeyCount
  replyNoBuffer : Word32
  deriving DecidableEq, Repr

/-- The admission unit at power-on reset (R116). -/
def Admission.powerOn : Admission :=
  { policers := Vector.replicate 64 { enabled := false, ceiling := 64, refill := 1, credit := 0 },
    quotas := #v[Config.quotaSum, 0, 0, 0, 0, 0, 0, 0], inUse := #v[0, 0, 0, 0, 0, 0, 0, 0], reserve := 0,
    free := Config.blocks, records := [], nextId := 0, restarts := 0, shadow := none, counts := [], replyNoBuffer := 0 }

/-! ## Replicator (R118 to R132) -/

/-- The replicator's parameters of an outbound key (R118). -/
structure OutParams extends OutFields where
  policer : Option (Fin 64)
  pool : Fin 8
  cls : ClassSel
  deriving DecidableEq, Repr

/-- A send counter (R119). -/
structure SendCounter where
  nxt : Seq
  restart : Bool
  deriving DecidableEq, Repr

/-- A send counter at its start: 0 with restart pending (R119). -/
def SendCounter.start : SendCounter := { nxt := 0, restart := true }

/-- The three counters of an outbound stream that the replicator owns (R130). -/
structure OutCounts where
  sent : Word32
  refused : PerLane Word32
  deriving DecidableEq, Repr

/-- Outbound counters at zero. -/
def OutCounts.zero : OutCounts := { sent := 0, refused := ⟨0, 0⟩ }

/-- An outbound key at the replicator: parameters, send counter and counters (R118). -/
structure OutStream where
  key : Key
  params : OutParams
  counter : SendCounter
  counts : OutCounts
  deriving DecidableEq, Repr

/-- The agent handoff (R127): a reply or a notice, as header and payload. -/
structure Handoff where
  reply : Bool
  bytes : List Byte
  deriving DecidableEq, Repr

/-- What the replicator handles (R121): a departure with the parameters read at its take, an unknown departure with the
lane chosen at its take, or a handoff. -/
inductive RepJob
  | directory (d : DirDeparture) (p : OutParams)
  | unknown (d : UnkDeparture) (l : Lane)
  | handoff (h : Handoff)
  deriving DecidableEq, Repr

/-- Work in hand at the replicator: the job; its frame reference once granted; the lanes whose enqueue answers are
outstanding; the copies placed so far (R118). -/
structure RepHand where
  job : RepJob
  ref : Option FrameRef
  waiting : List Lane
  placed : Nat
  deriving DecidableEq, Repr

/-- An abandoned handling whose enqueue answers are still due: its number, the frame reference that the replicator still
holds for it, and the lanes to be answered (R109, R110, R132; the model's own, log 29). -/
structure LateWork where
  hand : Nat
  ref : FrameRef
  waiting : List Lane
  deriving DecidableEq, Repr

/-- The replicator. `requestWaiting` marks a reconciliation request that came while work was in hand (R120, log 6); `late`
holds the abandoned handlings whose enqueue answers are still due (R132, log 29). -/
structure Replicator where
  streams : List OutStream
  gen : Gen
  pending : List ChangeEntry
  preferred : Lane
  links : PerLane Link
  reply : SendCounter
  replyCounts : OutCounts
  withdrawn : Word32
  unsent : Word32
  queue : List RepEntry
  handoff : Option Handoff
  hand : Option RepHand
  handNo : Nat
  requestWaiting : Bool
  late : List LateWork
  deriving DecidableEq, Repr

/-- The replicator at power-on reset, with the lanes' latched link states (R131). -/
def Replicator.powerOn (links : PerLane Link) : Replicator :=
  { streams := [], gen := 0, pending := [], preferred := .l0, links := links, reply := .start, replyCounts := .zero,
    withdrawn := 0, unsent := 0, queue := [], handoff := none, hand := none, handNo := 0, requestWaiting := false,
    late := [] }

/-! ## Egress unit (R139 to R153) -/

/-- A copy place, RESERVED or PLACED, with its descriptor (R139). -/
structure CopyPlace where
  place : Nat
  placed : Bool
  ref : FrameRef
  mark : Option Lane
  strip : Bool
  deriving DecidableEq, Repr

/-- A transmission: its number, the copy in hand and the bytes the port sends (R143, R144). -/
structure Transmission where
  number : Nat
  copy : CopyPlace
  wire : List Byte
  deriving DecidableEq, Repr

/-- What the egress unit holds for one port (R139). -/
structure PortEgress where
  link : Link
  queues : PerClass (List CopyPlace)
  limits : PerClass Nat
  tx : Option Transmission
  transmitted : Word32
  aborted : Word32
  flushed : Word32
  deriving DecidableEq, Repr

/-- A port of the egress unit at power-on reset, its latched link state `st` (R151). -/
def PortEgress.powerOn (st : Link) : PortEgress :=
  { link := st, queues := ⟨[], [], [], []⟩,
    limits := ⟨Config.defaultLimit, Config.defaultLimit, Config.defaultLimit, Config.defaultLimit⟩, tx := none,
    transmitted := 0, aborted := 0, flushed := 0 }

/-- The egress unit. `nextPlace` and `nextTx` number the next place and the next transmission (log 7). -/
structure Egress where
  ports : PerPort PortEgress
  shadow : Option (PerPort (PerClass Nat))
  restarts : Nat
  nextPlace : Nat
  nextTx : Nat
  deriving DecidableEq, Repr

/-- The egress unit at power-on reset (R151). -/
def Egress.powerOn (links : PerPort Link) : Egress :=
  { ports := ⟨.powerOn links.l0, .powerOn links.l1, .powerOn links.t⟩, shadow := none, restarts := 0, nextPlace := 0,
    nextTx := 0 }

/-! ## Management agent (R154 to R214) -/

/-- The five agent states (R156). -/
inductive AgentMode | noSession | session | checking | committing | restarting
  deriving DecidableEq, Repr

/-- The session: holder token, and the session timer's expiry in milliseconds when it runs (R161, R162). -/
structure Session where
  token : Word32
  timer : Option Nat
  deriving DecidableEq, Repr

/-- The shadow status with the running digest's remainder before its final complement (R179, R186). -/
inductive ShadowStatus | absent | dirty (rem : Word32) | checked (rem : Word32)
  deriving DecidableEq, Repr

/-- The requests that stay in progress after their own handling (R156). -/
inductive ProgressKind | check | commit | restart
  deriving DecidableEq, Repr

/-- The in-progress request (R156). -/
structure InProgress where
  token : Word32
  number : BitVec 16
  kind : ProgressKind
  side : Port
  deriving DecidableEq, Repr

/-- A check under way (R188): the answers in, and the reads outstanding. -/
structure CheckWork where
  records : List DirRecord
  policers : List (Fin 64 × Bool)
  quotas : List (Fin 8 × Nat)
  limits : List ((Port × Class) × Nat)
  unknownPool : Option (Fin 8)
  waiting : List CheckRead
  deriving DecidableEq, Repr

/-- A commit under way (R193 to R195): the preferred lane read and the reports taken. -/
structure CommitWork where
  lane : Lane
  swapped : Bool
  admission : Bool
  egress : Bool
  merge : Bool
  replicator : Bool
  deriving DecidableEq, Repr

/-- How far a restart has come (R175): its reply not yet released, the first or the second group of blocks to answer. -/
inductive RestartPhase | replying | first (waiting : List Block) | second (waiting : List Block)
  deriving DecidableEq, Repr

/-- A restart under way (R156, R175). -/
structure RestartWork where
  kind : RestartKind
  phase : RestartPhase
  deriving DecidableEq, Repr

/-- Why the agent discards the shadow (R163, R164, R180, R187). -/
inductive DiscardWhy | closing | timeout | abandoning | undo (r : WriteResult)
  deriving DecidableEq, Repr

/-- A discard under way: the blocks still to answer, and its cause. -/
structure DiscardWork where
  waiting : List Block
  why : DiscardWhy
  deriving DecidableEq, Repr

/-- The reply cache's entry (R165). -/
structure CacheEntry where
  token : Word32
  number : BitVec 16
  payload : List Byte
  deriving DecidableEq, Repr

/-- Where the handling of the request in hand stands (R157). -/
inductive HandStage
  | creating (r : Req) (waiting : List Block)
  | writing (fresh : Bool)
  | discarding
  | reading (r : Req) (waiting : List Block) (got : List (Block × ReadAnswer))
  | replying
  deriving DecidableEq, Repr

/-- The request in hand (R155, R157). -/
structure AgentHand where
  side : Port
  payload : List Byte
  stage : HandStage
  deriving DecidableEq, Repr

/-- A reply that is ready for the output (R166); `restart` marks a RESTART's own reply (R175). -/
structure ReadyReply where
  side : Port
  payload : List Byte
  restart : Bool
  deriving DecidableEq, Repr

/-- The way of the frame on the output: to T, with its bytes and its reference once granted, or to the lanes (R167, R168). -/
inductive OutPath | toT (bytes : List Byte) (ref : Option FrameRef) | toLanes
  deriving DecidableEq, Repr

/-- The frame on the output (R166). -/
structure OutFrame where
  reply : Bool
  restart : Bool
  path : OutPath
  deriving DecidableEq, Repr

/-- An entry of the notice list (R210). -/
structure NoticeEntry where
  kind : NoticeKind
  count : Nat
  detail : Word32
  time : Word32
  deriving DecidableEq, Repr

/-- A handed-out notice that waits for the output (R211). -/
structure HandedNotice where
  entry : NoticeEntry
  dest : NoticeDest
  deriving DecidableEq, Repr

/-- The management agent (R156). -/
structure Agent where
  mode : AgentMode
  session : Option Session
  shadow : ShadowStatus
  progress : Option InProgress
  check : Option CheckWork
  commit : Option CommitWork
  restart : Option RestartWork
  discard : Option DiscardWork
  cache : Option CacheEntry
  queue : List RequestEntry
  hand : Option AgentHand
  ready : Option ReadyReply
  output : Option OutFrame
  deferred : List Msg
  expiryDeferred : Bool
  notices : List NoticeEntry
  handed : Option HandedNotice
  pacing : Nat
  params : AgentParams
  timeCount : Word32
  unsent : Word32
  deriving DecidableEq, Repr

/-- The agent at power-on reset, with the milliseconds counted so far as `now` (R177, R214). -/
def Agent.powerOn (now : Nat) : Agent :=
  { mode := .noSession, session := none, shadow := .absent, progress := none, check := none, commit := none,
    restart := none, discard := none, cache := none, queue := [], hand := none, ready := none, output := none,
    deferred := [], expiryDeferred := false, notices := [], handed := none,
    pacing := now + DeviceParams.default.noticeInterval, params := DeviceParams.default.agentPart, timeCount := 0,
    unsent := 0 }

/-! ## The part -/

/-- The strap pins and the line interfaces' link indications (00, "Ports and pins"). -/
structure Pins where
  straps : Byte
  link : PerPort Link
  deriving DecidableEq, Repr

/-- The model's own clocks: periods of 10 µs and milliseconds counted so far (log 3). -/
structure Clock where
  tens : Nat
  millis : Nat
  deriving DecidableEq, Repr

/-- The whole part, the messages between its blocks and the queue of waiting commands. -/
structure State where
  pins : Pins
  node : Byte
  clock : Clock
  rx : PerPort Receiver
  cls : Classifier
  mrg : Merge
  adm : Admission
  rep : Replicator
  egr : Egress
  agt : Agent
  net : List Msg
  pending : List Instr
  deriving DecidableEq, Repr

/-- What stops the part with a fault: nothing. The manual gives every event an outcome (log 1), so the type has no
constructor and no command can fault. -/
inductive Fault
  deriving DecidableEq, Repr

/-- What has no meaning. -/
inductive Refusal
  /-- Raised by an arm of `exec` for a command that has no meaning yet; safe, because the run stops there. No arm does. -/
  | notModelled (mnemonic : String)
  deriving DecidableEq, Repr

/-- What a meaning answers. -/
abbrev Result := Host.Outcome State Fault Refusal

/-- The part at power-on reset with the given strap levels and link indications (R44, R74, R116, R131, R138, R151, R154,
R177). No message is between blocks: the link-change events that would follow the latch are not sent (R138). -/
def State.powerOn (straps : Byte) (links : PerPort Link) : State :=
  { pins := { straps := straps, link := links }, node := straps, clock := { tens := 0, millis := 0 },
    rx := ⟨.powerOn links.l0, .powerOn links.l1, .powerOn links.t⟩, cls := .powerOn ⟨links.l0, links.l1⟩,
    mrg := .powerOn, adm := .powerOn, rep := .powerOn ⟨links.l0, links.l1⟩, egr := .powerOn links, agt := .powerOn 0,
    net := [], pending := [] }

/-- The part right after a power-on reset with every strap at 0 and every link indication DOWN (log 4). -/
def State.reset : State := State.powerOn 0 ⟨.down, .down, .down⟩

end Sys2Proof.Machine
end

