-- ==== Sys2Proof/Machine/Flags.lean ====
section
/-! DEFINITION. Flags.lean: the part's counters (R204) and the notice list, which are what it flags conditions with. -/

namespace Sys2Proof.Machine

/-- A counter after `n` events: it rises by one at each and stays at 4294967295 (R204). -/
def count (c : Word32) (n : Nat) : Word32 := BitVec.ofNat 32 (min (c.toNat + n) 4294967295)

/-- A counter after one event (R204). -/
def bump (c : Word32) : Word32 := count c 1

/-- What a read reports of a counter kept in two parts (R204). -/
def partSum (a b : Word32) : Word32 := count a b.toNat

/-- The counter set of an inbound stream as the merge engine returns it, in the order of R205. -/
def InCounts.toList (c : InCounts) : List Word32 :=
  [c.passed, c.duplicate, c.late, c.outOfWindow, c.lost, c.resets, c.withdrawnHeld, c.noHold, c.queueFull]

/-- The counter set of an outbound stream as the replicator returns it, in the order of R206. -/
def OutCounts.toList (c : OutCounts) : List Word32 := [c.sent, c.refused.l0, c.refused.l1]

/-- The classifier's device counters in the order of R207, without the two it does not own. -/
def ClassifierCounts.toList (c : ClassifierCounts) : List Word32 :=
  [c.badHeader, c.noTrail, c.strayTrail, c.crossed.l0, c.crossed.l1, c.wrongDirection, c.unknownInbound,
    c.unknownOutbound, c.requestOverrun]

/-- The code of a notice kind (R18). -/
def noticeCode : NoticeKind → Nat
  | .laneChange => 1
  | .unknownStream => 2
  | .poolExhausted => 3
  | .holdExhausted => 4
  | .streamReset => 5
  | .crossedLane => 6
  | .sessionEnd => 7

/-- One more occurrence of a pending notice; its count stays at 65535 (R210). -/
def NoticeEntry.again (e : NoticeEntry) : NoticeEntry := { e with count := min (e.count + 1) Config.occurrenceMax }

/-- The notice list after a raise of `k` with detail `d` at time count `now` (R210). -/
def raiseIn (now : Word32) (k : NoticeKind) (d : Word32) : List NoticeEntry → List NoticeEntry
  | [] => [{ kind := k, count := 1, detail := d, time := now }]
  | e :: es => if e.kind = k then e.again :: es else e :: raiseIn now k d es

/-- The agent's taking of a raise (R210). -/
def Agent.raise (a : Agent) (k : NoticeKind) (d : Word32) : Agent :=
  { a with notices := raiseIn a.timeCount k d a.notices }

/-- The code of a lane or port in a detail, a trail or a request (R4, R12, R19). -/
def laneCode : Lane → Nat
  | .l0 => 0
  | .l1 => 1

/-- The code of a port (R12, R21). -/
def portCode : Port → Nat
  | .l0 => 0
  | .l1 => 1
  | .t => 2

/-- The code of a link state in a LANE-CHANGE detail (R19). -/
def linkCode : Link → Nat
  | .down => 0
  | .up => 1

/-- The first detail of a LANE-CHANGE notice: the lane in byte 3, its new link state in byte 2 (R19). -/
def laneChangeDetail (l : Lane) (st : Link) : Word32 := BitVec.ofNat 32 (256 * linkCode st + laneCode l)

/-- The first detail of a notice about a key (R19). -/
def keyDetail (k : Key) : Word32 := BitVec.ofNat 32 k.toNat

/-- The first detail of a POOL-EXHAUSTED notice (R19). -/
def poolDetail (i : Fin 8) : Word32 := BitVec.ofNat 32 i.val

/-- The first detail of a CROSSED-LANE notice (R19). -/
def laneDetail (l : Lane) : Word32 := BitVec.ofNat 32 (laneCode l)

end Sys2Proof.Machine
end

