-- ==== Sys2Proof/Machine/Operands.lean ====
section
/-! DEFINITION. Operands.lean: the byte layouts of 01_frame_and_record_formats.md: CRC-32, frames, records, requests,
replies and notices. -/

namespace Sys2Proof.Machine

/-! ## Bytes -/

/-- The byte at an offset (0 beyond the end, which no caller's length test lets it reach). -/
def byteAt (f : List Byte) (i : Nat) : Byte := f.getD i 0

/-- `n` bytes from offset `i`. -/
def slice (f : List Byte) (i n : Nat) : List Byte := (f.drop i).take n

/-- A multi-byte field as a number, most significant byte first (R1). -/
def beNat (bs : List Byte) : Nat := bs.foldl (fun n b => n * 256 + b.toNat) 0

/-- The number in the `n` bytes from offset `i` (R1). -/
def natAt (f : List Byte) (i n : Nat) : Nat := beNat (slice f i n)

/-- A number in `w` bytes, most significant byte first (R1). -/
def toBE : Nat → Nat → List Byte
  | 0, _ => []
  | w + 1, n => BitVec.ofNat 8 (n / 256 ^ w) :: toBE w n

/-- A flag as a number. -/
def flag (b : Bool) : Nat := if b then 1 else 0

/-! ## CRC-32 (R7) -/

/-- One bit of the CRC-32 (R7). -/
def crcBit (r : Word32) (b : Bool) : Word32 := if r.msb = b then r <<< 1 else (r <<< 1) ^^^ 0x04C11DB7#32

/-- One byte, most significant bit first (R7). -/
def crcByte (r : Word32) (x : Byte) : Word32 :=
  [7, 6, 5, 4, 3, 2, 1, 0].foldl (fun r i => crcBit r (x.getLsbD i)) r

/-- The remainder after more bytes, before the final complement (R7, R186). -/
def crcRun (r : Word32) (bs : List Byte) : Word32 := bs.foldl crcByte r

/-- The remainder over no bytes (R7). -/
def crcStart : Word32 := 0xFFFFFFFF#32

/-- The CRC-32 of a byte sequence (R7). -/
def crc32 (bs : List Byte) : Word32 := ~~~ crcRun crcStart bs

/-- A CRC-32 as it stands in a frame (R7). -/
def crcBytes (bs : List Byte) : List Byte := toBE 4 (crc32 bs).toNat

/-! ## Classes and ports -/

/-- The class of a two-bit field (R2). -/
def classOf (n : Nat) : Class :=
  match n % 4 with
  | 0 => .c0
  | 1 => .c1
  | 2 => .c2
  | _ => .c3

/-- A class as a number. -/
def classCode : Class → Nat
  | .c0 => 0
  | .c1 => 1
  | .c2 => 2
  | .c3 => 3

/-- The port of a code 0, 1 or 2 (R12, R21). -/
def portOf (n : Nat) : Port :=
  match n with
  | 0 => .l0
  | 1 => .l1
  | _ => .t

/-- The class queue a frame of header class `h` enters under a record's class (R62, R125). -/
def ClassSel.queue (c : ClassSel) (h : Class) : Class :=
  match c with
  | .fixed c => c
  | .keep => h

/-! ## Frames (R1 to R5) -/

/-- Header kind (R2). -/
def frameKind (f : List Byte) : Nat := (byteAt f 0).toNat / 16

/-- Header version (R2). -/
def frameVersion (f : List Byte) : Nat := (byteAt f 0).toNat % 16

/-- Header class (R2). -/
def frameClass (f : List Byte) : Class := classOf ((byteAt f 1).toNat / 64)

/-- Trail flag (R2). -/
def trailed (f : List Byte) : Bool := (byteAt f 1).getLsbD 5

/-- Stream key (R2). -/
def frameKey (f : List Byte) : Key := BitVec.ofNat 24 (natAt f 2 3)

/-- Payload length field (R2). -/
def payloadLen (f : List Byte) : Nat := natAt f 6 2

/-- Sequence of the trail (R4). -/
def frameSeq (f : List Byte) : Seq := BitVec.ofNat 16 (natAt f 8 2)

/-- Lane mark of the trail (R4). -/
def frameMark (f : List Byte) : Nat := (byteAt f 10).toNat

/-- Restart flag of the trail (R4). -/
def frameRestart (f : List Byte) : Bool := (byteAt f 11).getLsbD 0

/-- The frame's length as its header gives it (R1). -/
def frameLength (f : List Byte) : Nat := 8 + (if trailed f then 4 else 0) + payloadLen f + 4

/-- The payload (R1). -/
def framePayload (f : List Byte) : List Byte := slice f (if trailed f then 12 else 8) (payloadLen f)

/-- The header is well formed (R3). -/
def headerOk (f : List Byte) : Bool :=
  1 ≤ frameKind f && frameKind f ≤ 4 && frameVersion f == 1 && frameKey f != 0 && payloadLen f ≤ Config.payloadMax

/-- The kinds of frame (R2). -/
def kindRequest : Nat := 2
def kindReply : Nat := 3
def kindNotice : Nat := 4

/-- The own request key of node `n` (R6). -/
def ownRequestKey (n : Byte) : Key := BitVec.ofNat 24 (0xFFFF00 + n.toNat)

/-- The own reply key of node `n` (R6). -/
def ownReplyKey (n : Byte) : Key := BitVec.ofNat 24 (0xFFFE00 + n.toNat)

/-- The header with its trail flag set to `b`, no other bit changed (R3). -/
def withTrailFlag (f : List Byte) (b : Bool) : List Byte :=
  f.set 1 (if b then byteAt f 1 ||| 0x20#8 else byteAt f 1 &&& 0xDF#8)

/-- A trail that the part writes: sequence, lane mark 0x00, restart flag, zero spare bits (R5, R124). -/
def trailBytes (s : Seq) (restart : Bool) : List Byte := toBE 2 s.toNat ++ [0, BitVec.ofNat 8 (flag restart)]

/-- The stored form of a stamped frame: header with the trail flag set, trail, payload; no frame check (R124). -/
def stampFrame (f : List Byte) (s : Seq) (restart : Bool) : List Byte :=
  (withTrailFlag f true).take 8 ++ trailBytes s restart ++ framePayload f

/-- A lane copy as it leaves: lane mark in byte 2 of the trail and a fresh frame check (R144). -/
def markedCopy (stored : List Byte) (l : Lane) : List Byte :=
  let b := stored.set 10 (BitVec.ofNat 8 (laneCode l))
  b ++ crcBytes b

/-- A stripped copy as it leaves T: trail flag cleared, trail removed, a fresh frame check (R144). -/
def strippedCopy (stored : List Byte) : List Byte :=
  let b := (withTrailFlag stored false).take 8 ++ framePayload stored
  b ++ crcBytes b

/-- The header of a frame that the part builds, trail flag clear (R3). -/
def ownHeader (kind : Nat) (c : Class) (node : Byte) (len : Nat) : List Byte :=
  [BitVec.ofNat 8 (16 * kind + 1), BitVec.ofNat 8 (64 * classCode c)] ++ toBE 3 (ownReplyKey node).toNat ++ [node] ++
    toBE 2 len

/-! ## Codes of status, reasons and request kinds (R12, R13, R16) -/

/-- Reply status (R16). -/
inductive Status
  | ok | busy | noSession | notHolder | malformed | badCheck | shadowFull | notFound | invalid | digestMismatch | noChange
  deriving DecidableEq, Repr

/-- The code of a status (R16). -/
def statusCode : Status → Nat
  | .ok => 0
  | .busy => 1
  | .noSession => 2
  | .notHolder => 3
  | .malformed => 4
  | .badCheck => 5
  | .shadowFull => 6
  | .notFound => 7
  | .invalid => 8
  | .digestMismatch => 9
  | .noChange => 10

/-- The reasons of a MALFORMED reply (R13) and of an INVALID one (R16). -/
inductive Reason
  | short | unknownKind | tableMismatch | countRange | fieldRange | zeroKey | nonzeroFill | zeroToken
  | policerDisabled | poolEmpty | poolSum | queueSum | reservedKey | unknownPoolEmpty
  deriving DecidableEq, Repr

/-- The code of a reason (R13, R16). -/
def reasonCode : Reason → Nat
  | .short => 1
  | .unknownKind => 2
  | .tableMismatch => 3
  | .countRange => 4
  | .fieldRange => 5
  | .zeroKey => 6
  | .nonzeroFill => 7
  | .zeroToken => 8
  | .policerDisabled => 9
  | .poolEmpty => 10
  | .poolSum => 11
  | .queueSum => 12
  | .reservedKey => 13
  | .unknownPoolEmpty => 14

/-- The detail word of a reason and an index (R15). -/
def detailOf (r : Reason) (i : Nat) : Nat := 4096 * reasonCode r + i

/-- The request kinds (R12). -/
inductive ReqKind
  | openSession | closeSession | put | drop | clear | abandon | check | commit | read | readNext | readStats | status | restart
  deriving DecidableEq, Repr

/-- The kind of a code, if R12 has it. -/
def reqKindOf (code : Nat) : Option ReqKind :=
  match code with
  | 0x01 => some .openSession
  | 0x02 => some .closeSession
  | 0x10 => some .put
  | 0x11 => some .drop
  | 0x12 => some .clear
  | 0x13 => some .abandon
  | 0x14 => some .check
  | 0x15 => some .commit
  | 0x20 => some .read
  | 0x21 => some .readNext
  | 0x22 => some .readStats
  | 0x23 => some .status
  | 0x30 => some .restart
  | _ => none

/-- The kind code of the in-progress request (R12). -/
def progressCode : ProgressKind → Nat
  | .check => 0x14
  | .commit => 0x15
  | .restart => 0x30

/-- Whether a kind is a staging request, which ends with a record check (R11). -/
def ReqKind.staging : ReqKind → Bool
  | .put => true
  | .drop => true
  | .clear => true
  | _ => false

/-! ## Request layout and well-formedness (R10 to R13) -/

/-- Token of a request payload, missing bytes as zero (R11). -/
def reqToken (p : List Byte) : Word32 := BitVec.ofNat 32 (beNat ((p.take 4) ++ List.replicate (4 - p.length) 0))

/-- Request number of a payload, missing bytes as zero (R11). -/
def reqNumber (p : List Byte) : BitVec 16 :=
  BitVec.ofNat 16 ((byteAt p 4).toNat * 256 + (byteAt p 5).toNat)

/-- Kind, table and count bytes (R10). -/
def reqKindCode (p : List Byte) : Nat := (byteAt p 6).toNat
def reqTable (p : List Byte) : Nat := (byteAt p 7).toNat
def reqCount (p : List Byte) : Nat := (byteAt p 8).toNat

/-- Bytes of one entry of a table (R20). -/
def entryLength (table : Nat) : Nat :=
  match table with
  | 1 => 16
  | 2 => 8
  | _ => 4

/-- The table codes that R12 allows a kind. -/
def tableOk (k : ReqKind) (t : Nat) : Bool :=
  match k with
  | .put => 1 ≤ t && t ≤ 5
  | .read => 1 ≤ t && t ≤ 5
  | .drop => t == 1
  | .clear => t == 1
  | .readNext => t == 1
  | _ => t == 0

/-- The counts that R12 allows a kind and table. -/
def countOk (k : ReqKind) (t c : Nat) : Bool :=
  match k with
  | .put => 1 ≤ c && c ≤ (if t = 1 then 8 else 16)
  | .drop => 1 ≤ c && c ≤ 8
  | .clear => c == 1
  | .read => c == 1
  | .readNext => 1 ≤ c && c ≤ 8
  | _ => c == 0

/-- Length of the operand area (R11, R12). -/
def operandLength (k : ReqKind) (t c : Nat) : Nat :=
  match k with
  | .put => c * entryLength t
  | .drop => c * 4
  | .clear => 4
  | .commit => 4
  | .read => 5
  | .readNext => 5
  | .readStats => 6
  | .restart => 1
  | _ => 0

/-- Length of the payload (R11). -/
def requestLength (k : ReqKind) (t c : Nat) : Nat := 9 + operandLength k t c + (if k.staging then 4 else 0)

/-- The operand area, which for PUT, DROP and CLEAR is the record area (R11, R14). -/
def operandArea (k : ReqKind) (p : List Byte) : List Byte :=
  slice p 9 (operandLength k (reqTable p) (reqCount p))

/-- A list of bytes cut into `n` entries of `len` bytes. -/
def chunks (len : Nat) : Nat → List Byte → List (List Byte)
  | 0, _ => []
  | n + 1, bs => bs.take len :: chunks len n (bs.drop len)

/-- What the field conditions of R13 are tested on: the entries of a staging request, or the operands as one entry. -/
def requestEntries (k : ReqKind) (p : List Byte) : List (List Byte) :=
  match k with
  | .put => chunks (entryLength (reqTable p)) (reqCount p) (operandArea k p)
  | .drop => chunks 4 (reqCount p) (operandArea k p)
  | _ => [operandArea k p]

/-- A range test on a field. -/
def within (lo n hi : Nat) : Bool := lo ≤ n && n ≤ hi

/-- Bits of the flag byte of a directory record (R20). -/
def dirOutbound (e : List Byte) : Bool := (byteAt e 3).getLsbD 7
def dirInOrder (e : List Byte) : Bool := (byteAt e 3).getLsbD 6
def dirStrip (e : List Byte) : Bool := (byteAt e 3).getLsbD 5
def dirPoliced (e : List Byte) : Bool := (byteAt e 3).getLsbD 4
def dirMask1 (e : List Byte) : Bool := (byteAt e 3).getLsbD 3
def dirMask0 (e : List Byte) : Bool := (byteAt e 3).getLsbD 2

/-- The present fields of a directory record lie in their ranges (R21). -/
def dirRangeOk (e : List Byte) : Bool :=
  (if dirOutbound e then dirMask0 e || dirMask1 e
   else within 2 (natAt e 4 1) 128 && natAt e 8 2 ≤ 60000 && (!dirInOrder e || within 1 (natAt e 6 2) 4095)) &&
  (!dirPoliced e || natAt e 10 1 ≤ 63) && natAt e 11 1 ≤ 7 && (natAt e 12 1 ≤ 3 || natAt e 12 1 == 15)

/-- The zero bytes and absent fields of a directory record are zero (R21). -/
def dirFillOk (e : List Byte) : Bool :=
  (byteAt e 3).toNat % 4 == 0 && natAt e 13 3 == 0 &&
  (if dirOutbound e then
     !dirInOrder e && !dirStrip e && natAt e 4 2 == 0 && natAt e 6 2 == 0 && natAt e 8 2 == 0
   else !dirMask0 e && !dirMask1 e && (dirInOrder e || natAt e 6 2 == 0)) &&
  (dirPoliced e || natAt e 10 1 == 0)

/-- The value range of a device entry's index (R22). -/
def deviceRangeOk (i v : Nat) : Bool :=
  match i with
  | 0 => v ≤ 2
  | 1 => v ≤ 1
  | 2 => v ≤ 1
  | 3 => v ≤ 7
  | 4 => v ≤ 2
  | 5 => within 10 v 10000
  | 6 => within 1 v 600
  | 7 => v ≤ 3
  | _ => false

/-- The fields of an entry of a table lie in their ranges (R21, R22). -/
def entryRangeOk (t : Nat) (e : List Byte) : Bool :=
  match t with
  | 1 => dirRangeOk e
  | 2 => natAt e 0 1 ≤ 63 && natAt e 1 1 ≤ 1 && within 64 (natAt e 2 3) 262143 && within 1 (natAt e 5 2) 16383
  | 3 => natAt e 0 1 ≤ 7 && natAt e 2 2 ≤ Config.quotaSum
  | 4 => natAt e 0 1 ≤ 2 && natAt e 1 1 ≤ 3 && natAt e 2 2 ≤ Config.slots
  | _ => deviceRangeOk (natAt e 0 1) (natAt e 2 2)

/-- The zero bytes of an entry of a table are zero (R20, R21). -/
def entryFillOk (t : Nat) (e : List Byte) : Bool :=
  match t with
  | 1 => dirFillOk e
  | 2 => natAt e 7 1 == 0
  | 4 => true
  | _ => natAt e 1 1 == 0

/-- The largest READ index of a table (R12). -/
def readIndexMax (t : Nat) : Nat :=
  match t with
  | 2 => 63
  | 3 => 7
  | 4 => 11
  | _ => 7

/-- FIELD-RANGE does not hold of an entry (R13). -/
def rangeOk (k : ReqKind) (t : Nat) (e : List Byte) : Bool :=
  match k with
  | .put => entryRangeOk t e
  | .read => natAt e 0 1 ≤ 1 && (t == 1 || natAt e 4 1 ≤ readIndexMax t)
  | .readNext => natAt e 0 1 ≤ 1
  | .readStats => within 1 (natAt e 0 1) 3 && natAt e 5 1 ≤ 1 && (natAt e 0 1 != 2 || natAt e 4 1 ≤ 2)
  | .restart => within 1 (natAt e 0 1) 2
  | _ => true

/-- ZERO-KEY does not hold of an entry (R13). -/
def keyOk (k : ReqKind) (t : Nat) (e : List Byte) : Bool :=
  match k with
  | .put => t != 1 || natAt e 0 3 != 0
  | .drop => natAt e 1 3 != 0
  | .read => t != 1 || natAt e 2 3 != 0
  | .readStats => natAt e 0 1 != 1 || natAt e 2 3 != 0
  | _ => true

/-- NONZERO-FILL does not hold of an entry (R13). -/
def fillOk (k : ReqKind) (t : Nat) (e : List Byte) : Bool :=
  match k with
  | .put => entryFillOk t e
  | .drop => natAt e 0 1 == 0
  | .clear => natAt e 0 4 == 0
  | .read => if t = 1 then natAt e 1 1 == 0 else natAt e 1 3 == 0
  | .readNext => natAt e 1 1 == 0
  | .readStats =>
    if natAt e 0 1 = 1 then natAt e 1 1 == 0 else if natAt e 0 1 = 2 then natAt e 1 3 == 0 else natAt e 1 4 == 0
  | _ => true

/-- The first condition of R13 that holds of a request of kind `k` whose payload has its nine fixed bytes, with its index;
`none` when the request is well formed. -/
def malformedKind (k : ReqKind) (p : List Byte) : Option (Reason × Nat) :=
  let t := reqTable p
  let c := reqCount p
  let es := requestEntries k p
  if tableOk k t && countOk k t c && p.length != requestLength k t c then some (.short, 0)
  else if !tableOk k t then some (.tableMismatch, 0)
  else if !countOk k t c then some (.countRange, 0)
  else match es.findIdx? (fun e => !rangeOk k t e) with
  | some i => some (.fieldRange, i)
  | none => match es.findIdx? (fun e => !keyOk k t e) with
    | some i => some (.zeroKey, i)
    | none => match es.findIdx? (fun e => !fillOk k t e) with
      | some i => some (.nonzeroFill, i)
      | none => if reqToken p = 0 then some (.zeroToken, 0) else none

/-! ## Record encodings (R20 to R22) -/

/-- A class byte of a directory record (R20). -/
def classSelOf (n : Nat) : ClassSel := if n = 15 then .keep else .fixed (classOf n)

/-- The class byte of a record's class (R20). -/
def classSelCode : ClassSel → Nat
  | .keep => 15
  | .fixed c => classCode c

/-- A well-formed directory record, decoded (R20, R21). -/
def decodeDir (e : List Byte) : DirRecord :=
  { key := BitVec.ofNat 24 (natAt e 0 3),
    fields :=
      if dirOutbound e then .outbound { l0 := dirMask0 e, l1 := dirMask1 e }
      else .inbound
        { mode := if dirInOrder e then .inOrder (natAt e 6 2) else .passFirst, strip := dirStrip e,
          window := natAt e 4 1, rogue := natAt e 5 1, silence := natAt e 8 2 },
    policer := if dirPoliced e then some (Fin.ofNat 64 (natAt e 10 1)) else none,
    pool := Fin.ofNat 8 (natAt e 11 1),
    cls := classSelOf (natAt e 12 1) }

/-- The hold time of a mode, 0 where it is absent (R21). -/
def Mode.holdField : Mode → Nat
  | .passFirst => 0
  | .inOrder h => h

/-- Whether a mode is IN-ORDER. -/
def Mode.isInOrder : Mode → Bool
  | .passFirst => false
  | .inOrder _ => true

/-- The flag byte of a directory record (R20). -/
def dirFlags (r : DirRecord) : Nat :=
  (match r.fields with
   | .inbound f => 64 * flag f.mode.isInOrder + 32 * flag f.strip
   | .outbound f => 128 + 8 * flag f.l1 + 4 * flag f.l0) + 16 * flag r.policer.isSome

/-- A directory record in its encoding, absent fields zero (R20, R21). -/
def encodeDir (r : DirRecord) : List Byte :=
  toBE 3 r.key.toNat ++ [BitVec.ofNat 8 (dirFlags r)] ++
  (match r.fields with
   | .inbound f => toBE 1 f.window ++ toBE 1 f.rogue ++ toBE 2 f.mode.holdField ++ toBE 2 f.silence
   | .outbound _ => List.replicate 6 0) ++
  toBE 1 (match r.policer with | some i => i.val | none => 0) ++ toBE 1 r.pool.val ++ toBE 1 (classSelCode r.cls) ++
  [0, 0, 0]

/-- The values that the fields of a well-formed directory record take (R21). -/
def DirRecord.wf (r : DirRecord) : Bool :=
  r.key != 0 &&
  (match r.fields with
   | .inbound f =>
     within 2 f.window 128 && f.rogue ≤ 255 && f.silence ≤ 60000 &&
       (match f.mode with | .passFirst => true | .inOrder h => within 1 h 4095)
   | .outbound f => f.l0 || f.l1)

/-- A policer entry, decoded and encoded (R21). -/
def decodePolicer (e : List Byte) : PolicerEntry :=
  { index := Fin.ofNat 64 (natAt e 0 1), enabled := natAt e 1 1 == 1, ceiling := natAt e 2 3, refill := natAt e 5 2 }
def encodePolicer (e : PolicerEntry) : List Byte :=
  toBE 1 e.index.val ++ toBE 1 (flag e.enabled) ++ toBE 3 e.ceiling ++ toBE 2 e.refill ++ [0]

/-- A pool entry, decoded and encoded (R21). -/
def decodePool (e : List Byte) : PoolEntry := { index := Fin.ofNat 8 (natAt e 0 1), quota := natAt e 2 2 }
def encodePool (e : PoolEntry) : List Byte := toBE 1 e.index.val ++ [0] ++ toBE 2 e.quota

/-- A queue entry, decoded and encoded (R21). -/
def decodeQueue (e : List Byte) : QueueEntry :=
  { port := portOf (natAt e 0 1), cls := classOf (natAt e 1 1), limit := natAt e 2 2 }
def encodeQueue (e : QueueEntry) : List Byte := toBE 1 (portCode e.port) ++ toBE 1 (classCode e.cls) ++ toBE 2 e.limit

/-- A device entry, decoded (R22). -/
def decodeDevice (e : List Byte) : DeviceEntry :=
  let v := natAt e 2 2
  match natAt e 0 1 with
  | 0 => .unknownInbound (if v = 0 then .discard else if v = 1 then .preferredLane else .all)
  | 1 => .preferredLane (if v = 0 then .l0 else .l1)
  | 2 => .unknownOutbound (if v = 0 then .discard else .preferredLane)
  | 3 => .unknownPool (Fin.ofNat 8 v)
  | 4 => .noticeDestination (if v = 0 then .off else if v = 1 then .tributary else .lanes)
  | 5 => .noticeInterval v
  | 6 => .sessionTimeout v
  | _ => .managementClass (classOf v)

/-- The index of a device entry (R22). -/
def deviceIndex : DeviceEntry → Nat
  | .unknownInbound _ => 0
  | .preferredLane _ => 1
  | .unknownOutbound _ => 2
  | .unknownPool _ => 3
  | .noticeDestination _ => 4
  | .noticeInterval _ => 5
  | .sessionTimeout _ => 6
  | .managementClass _ => 7

/-- The encoded value of a device entry (R22). -/
def deviceValue : DeviceEntry → Nat
  | .unknownInbound .discard => 0
  | .unknownInbound .preferredLane => 1
  | .unknownInbound .all => 2
  | .preferredLane l => laneCode l
  | .unknownOutbound .discard => 0
  | .unknownOutbound .preferredLane => 1
  | .unknownPool i => i.val
  | .noticeDestination .off => 0
  | .noticeDestination .tributary => 1
  | .noticeDestination .lanes => 2
  | .noticeInterval n => n
  | .sessionTimeout n => n
  | .managementClass c => classCode c

/-- A device entry in its encoding (R21, R22). -/
def encodeDevice (e : DeviceEntry) : List Byte := toBE 1 (deviceIndex e) ++ [0] ++ toBE 2 (deviceValue e)

/-! ## Decoding a request -/

/-- The bank of a READ or READ-NEXT (R12). -/
def bankOf (n : Nat) : Bank := if n = 0 then .active else .shadow

/-- The operands of a well-formed request of kind `k` (R12). -/
def decodeOperands (k : ReqKind) (p : List Byte) : Req :=
  let e := operandArea k p
  let es := requestEntries k p
  let b := bankOf (natAt e 0 1)
  let i := natAt e 4 1
  match k with
  | .openSession => .openSession
  | .closeSession => .closeSession
  | .put =>
    match reqTable p with
    | 1 => .putDirectory (es.map decodeDir)
    | 2 => .putPolicers (es.map decodePolicer)
    | 3 => .putPools (es.map decodePool)
    | 4 => .putQueues (es.map decodeQueue)
    | _ => .putDevice (es.map decodeDevice)
  | .drop => .dropKeys (es.map fun e => BitVec.ofNat 24 (natAt e 1 3))
  | .clear => .clearBank
  | .abandon => .abandon
  | .check => .checkShadow
  | .commit => .commit (BitVec.ofNat 32 (natAt e 0 4))
  | .read =>
    match reqTable p with
    | 1 => .readDirectory b (BitVec.ofNat 24 (natAt e 2 3))
    | 2 => .readPolicer b (Fin.ofNat 64 i)
    | 3 => .readPool b (Fin.ofNat 8 i)
    | 4 => .readQueue b (portOf (i / 4)) (classOf i)
    | _ => .readDevice b (Fin.ofNat 8 i)
  | .readNext => .readNext b (BitVec.ofNat 24 (natAt e 2 3)) (reqCount p)
  | .readStats =>
    match natAt e 0 1 with
    | 1 => .statsKey (BitVec.ofNat 24 (natAt e 2 3)) (natAt e 5 1 == 1)
    | 2 => .statsPort (portOf i) (natAt e 5 1 == 1)
    | _ => .statsDevice (natAt e 5 1 == 1)
  | .status => .status
  | .restart => .restart (if natAt e 0 1 = 1 then .traffic else .full)

/-- A request payload: malformed with reason and index, or a well-formed request (R13). -/
def parseRequest (p : List Byte) : Except (Reason × Nat) Req :=
  if p.length < 9 then .error (.short, 0)
  else match reqKindOf (reqKindCode p) with
  | none => .error (.unknownKind, 0)
  | some k => match malformedKind k p with
    | some e => .error e
    | none => .ok (decodeOperands k p)

/-- The rows of the opcode table that take a request from the agent request queue. -/
inductive RequestRow
  | unknownKind | openSession | closeSession | putDirectory | putPolicers | putPools | putQueues | putDevice | dropKeys
  | clearBank | abandon | checkShadow | commit | readDirectory | readPolicers | readPools | readQueues | readDevice
  | readNext | readStatsKey | readStatsPort | readStatsDevice | status | restartTraffic | restartFull
  deriving DecidableEq, Repr

/-- The row that takes a request payload, malformed ones included (log 9). -/
def requestRow (p : List Byte) : RequestRow :=
  if p.length < 7 then .unknownKind
  else match reqKindOf (reqKindCode p) with
  | none => .unknownKind
  | some .openSession => .openSession
  | some .closeSession => .closeSession
  | some .put =>
    match reqTable p with
    | 2 => .putPolicers
    | 3 => .putPools
    | 4 => .putQueues
    | 5 => .putDevice
    | _ => .putDirectory
  | some .drop => .dropKeys
  | some .clear => .clearBank
  | some .abandon => .abandon
  | some .check => .checkShadow
  | some .commit => .commit
  | some .read =>
    match reqTable p with
    | 2 => .readPolicers
    | 3 => .readPools
    | 4 => .readQueues
    | 5 => .readDevice
    | _ => .readDirectory
  | some .readNext => .readNext
  | some .readStats =>
    match (byteAt p 9).toNat with
    | 2 => .readStatsPort
    | 3 => .readStatsDevice
    | _ => .readStatsKey
  | some .status => .status
  | some .restart => if (byteAt p 9).toNat = 2 then .restartFull else .restartTraffic

/-- The record check of a staging request: the last four bytes (R14). -/
def recordCheck (p : List Byte) : Word32 := BitVec.ofNat 32 (natAt p (p.length - 4) 4)

/-- The record area of a staging request (R14). -/
def recordArea (p : List Byte) : List Byte := slice p 9 (p.length - 13)

/-! ## Replies and notices (R15 to R19) -/

/-- A reply payload (R15): token, request number, kind, status, generation, detail, results. -/
def replyBytes (token : Word32) (number : BitVec 16) (kind : Nat) (st : Status) (gen : Gen) (detail : Nat)
    (results : List Byte) : List Byte :=
  toBE 4 token.toNat ++ toBE 2 number.toNat ++ toBE 1 kind ++ toBE 1 (statusCode st) ++ toBE 2 gen.toNat ++
    toBE 2 detail ++ results

/-- Bytes 0 to 11 of a notice payload (R18). -/
def noticeHead (e : NoticeEntry) : List Byte :=
  toBE 1 (noticeCode e.kind) ++ [0] ++ toBE 2 e.count ++ toBE 4 e.detail.toNat ++ toBE 4 e.time.toNat

/-- A notice payload (R18). -/
def noticeBytes (e : NoticeEntry) (gen : Gen) : List Byte := noticeHead e ++ toBE 2 gen.toNat

/-- Counters as READ-STATS returns them: their number, then 32 bits each (R17). -/
def counterBytes (cs : List Word32) : List Byte := toBE 1 cs.length ++ cs.flatMap fun c => toBE 4 c.toNat

end Sys2Proof.Machine
end

