-- ==== Sys2Proof/Machine/Ops.lean ====
section
/-! DEFINITION. Ops.lean: the operations that the blocks share: values per port, lane and class; messages between blocks;
directory banks; stored frames. -/

namespace Sys2Proof.Machine

/-! ## Values per port, lane and class -/

/-- The value of a port. -/
def PerPort.get {α : Type} (v : PerPort α) : Port → α
  | .l0 => v.l0
  | .l1 => v.l1
  | .t => v.t

/-- `v` with the value of one port replaced. -/
def PerPort.set {α : Type} (v : PerPort α) (p : Port) (x : α) : PerPort α :=
  match p with
  | .l0 => { v with l0 := x }
  | .l1 => { v with l1 := x }
  | .t => { v with t := x }

/-- The value of a lane. -/
def PerLane.get {α : Type} (v : PerLane α) : Lane → α
  | .l0 => v.l0
  | .l1 => v.l1

/-- `v` with the value of one lane replaced. -/
def PerLane.set {α : Type} (v : PerLane α) (l : Lane) (x : α) : PerLane α :=
  match l with
  | .l0 => { v with l0 := x }
  | .l1 => { v with l1 := x }

/-- The value of a class. -/
def PerClass.get {α : Type} (v : PerClass α) : Class → α
  | .c0 => v.c0
  | .c1 => v.c1
  | .c2 => v.c2
  | .c3 => v.c3

/-- `v` with the value of one class replaced. -/
def PerClass.set {α : Type} (v : PerClass α) (c : Class) (x : α) : PerClass α :=
  match c with
  | .c0 => { v with c0 := x }
  | .c1 => { v with c1 := x }
  | .c2 => { v with c2 := x }
  | .c3 => { v with c3 := x }

/-- The lane a port is, if it is one. -/
def laneOf : Port → Option Lane
  | .l0 => some .l0
  | .l1 => some .l1
  | .t => none

/-- The port of a lane. -/
def lanePort : Lane → Port
  | .l0 => .l0
  | .l1 => .l1

/-- The other lane. -/
def otherLane : Lane → Lane
  | .l0 => .l1
  | .l1 => .l0

/-! ## Messages (log 1, 8) -/

/-- The first message that `sel` picks, with what it carries, and the other messages in their order. -/
def takeFirst {α : Type} (sel : Msg → Option α) : List Msg → Option (α × List Msg)
  | [] => none
  | m :: ms =>
    match sel m with
    | some a => some (a, ms)
    | none =>
      match takeFirst sel ms with
      | some (a, rest) => some (a, m :: rest)
      | none => none

/-- An event that takes the first message `sel` picks; without such a message the event does not occur (log 1). -/
def State.onMsg {α : Type} (s : State) (sel : Msg → Option α) (k : α → State → State) : Result :=
  match takeFirst sel s.net with
  | none => .next s
  | some (a, rest) => .next (k a { s with net := rest })

/-- Messages sent, behind those already on their way. -/
def State.send (s : State) (ms : List Msg) : State := { s with net := s.net ++ ms }

/-- An answer to a read, sent to where the agent's purpose takes it (R169, R188, R193). -/
def answerTo (u : Purpose) (b : Block) (r : CheckRead) (a : ReadAnswer) : Msg :=
  match u with
  | .request => .readAns b a
  | .check => .checkAns r a
  | .commit => .laneAns a

/-! ## Directory banks (R23, R26, R42) -/

/-- The record of a key in a bank (R23). -/
def findRecord (b : List DirRecord) (k : Key) : Option DirRecord := b.find? fun r => r.key == k

/-- The classifier's lookup: a record's direction, or none (R24). -/
def lookup (b : List DirRecord) (k : Key) : Option Direction := (findRecord b k).map DirRecord.direction

/-- A record inserted at its key's place, or replacing the record of that key (R26). -/
def insertRecord (r : DirRecord) : List DirRecord → List DirRecord
  | [] => [r]
  | x :: xs => if r.key < x.key then r :: x :: xs else if r.key = x.key then r :: xs else x :: insertRecord r xs

/-- A record write, applied in request order (R26). -/
def writeRecords (b : List DirRecord) (rs : List DirRecord) : List DirRecord := rs.foldl (fun b r => insertRecord r b) b

/-- The bank without the records of the named keys (R26). -/
def removeRecords (b : List DirRecord) (ks : List Key) : List DirRecord := b.filter fun r => !ks.contains r.key

/-- Position of the first named key that has no record (R26). -/
def firstAbsent (b : List DirRecord) (ks : List Key) : Option Nat := ks.findIdx? fun k => (findRecord b k).isNone

/-- The records above a start key, in key order, up to a limit (R24). -/
def recordsAfter (b : List DirRecord) (start : Key) (limit : Nat) : List DirRecord :=
  (b.filter fun r => decide (start < r.key)).take limit

/-- A bank in strictly ascending key order (R23). -/
def ascending : List DirRecord → Bool
  | [] => true
  | [_] => true
  | a :: b :: rest => decide (a.key < b.key) && ascending (b :: rest)

/-- The law of R23 for one bank. -/
def bankOk (b : List DirRecord) : Bool := ascending b && b.length ≤ Config.bankRecords

/-- A change from an inbound record to an inbound record: RECOVERY-CHANGED when the mode or W differs (R42). -/
def inboundChange (old new : InFields) (r : DirRecord) : ChangeCat :=
  if old.mode.isInOrder = new.mode.isInOrder ∧ old.window = new.window then .otherChanged r else .recoveryChanged r

/-- The change-list entries of one key (R42). -/
def changeOf (old new : List DirRecord) (k : Key) : List ChangeEntry :=
  match findRecord old k, findRecord new k with
  | none, none => []
  | some _, none => [⟨k, .removed⟩]
  | none, some r => [⟨k, .added r⟩]
  | some o, some r =>
    if o = r then []
    else match o.fields, r.fields with
      | .inbound fo, .inbound fr => [⟨k, inboundChange fo fr r⟩]
      | .outbound _, .outbound _ => [⟨k, .otherChanged r⟩]
      | _, _ => [⟨k, .removed⟩, ⟨k, .added r⟩]

/-- The keys of two banks, ascending, each once. -/
def bankKeys (old new : List DirRecord) : List Key := (writeRecords old new).map fun r => r.key

/-- The change list from `old` to `new` (R42). -/
def changeList (old new : List DirRecord) : List ChangeEntry := (bankKeys old new).flatMap (changeOf old new)

/-! ## Device parameters (R22, R26) -/

/-- One device parameter set (R26). -/
def DeviceParams.put (p : DeviceParams) : DeviceEntry → DeviceParams
  | .unknownInbound v => { p with unknownInbound := v }
  | .preferredLane v => { p with preferredLane := v }
  | .unknownOutbound v => { p with unknownOutbound := v }
  | .unknownPool v => { p with unknownPool := v }
  | .noticeDestination v => { p with noticeDestination := v }
  | .noticeInterval v => { p with noticeInterval := v }
  | .sessionTimeout v => { p with sessionTimeout := v }
  | .managementClass v => { p with managementClass := v }

/-- The device parameter at an index (R24). -/
def DeviceParams.entry (p : DeviceParams) (i : Fin 8) : DeviceEntry :=
  match i.val with
  | 0 => .unknownInbound p.unknownInbound
  | 1 => .preferredLane p.preferredLane
  | 2 => .unknownOutbound p.unknownOutbound
  | 3 => .unknownPool p.unknownPool
  | 4 => .noticeDestination p.noticeDestination
  | 5 => .noticeInterval p.noticeInterval
  | 6 => .sessionTimeout p.sessionTimeout
  | _ => .managementClass p.managementClass

/-! ## Stored frames (R61, R107) -/

/-- The frame record that a reference names: none when it was granted under another restart count or is gone (R108). -/
def Admission.recordOf (a : Admission) (ref : FrameRef) : Option FrameRec :=
  if ref.restart = a.restarts then a.records.find? fun r => r.id == ref.id else none

/-- `f` applied to the frame record that a reference names. -/
def Admission.updRecord (a : Admission) (ref : FrameRef) (f : FrameRec → FrameRec) : Admission :=
  if ref.restart = a.restarts then
    { a with records := a.records.map fun r => if r.id = ref.id then f r else r }
  else a

/-- A frame written into its granted blocks (R61, R124, R167). -/
def State.writeFrame (s : State) (ref : FrameRef) (bytes : List Byte) : State :=
  { s with adm := s.adm.updRecord ref fun r => { r with bytes := bytes } }

/-- The bytes stored under a reference (R144). -/
def Admission.stored (a : Admission) (ref : FrameRef) : List Byte :=
  match a.recordOf ref with
  | some r => r.bytes
  | none => []

/-- Blocks that a frame of a length occupies (R101). -/
def blocksFor (len : Nat) : Nat := (len + (Config.blockBytes - 1)) / Config.blockBytes

/-! ## Staging buffers (R133) -/

/-- The staging buffers in use: one for each staged frame, from its frame start to its grant, its reading by the agent or
its discard (R133, log 10). The buffer of a management arrival in hand is the agent's once the agent has accepted its
placement (R72): it is counted in the agent request queue until the agent reads it, and not here. -/
def State.stagingInUse (s : State) : Nat :=
  let rx (r : Receiver) : Nat := r.reception.toList.length + r.awaiting.toList.length
  let mrg : Nat := match s.mrg.hand with
    | some (.directory _ _ none) => 1
    | some (.unknown _ none) => 1
    | some (.management _ _) => if s.net.contains (.placementAns s.mrg.handNo true) then 0 else 1
    | _ => 0
  let rep : Nat := match s.rep.hand with
    | some { job := .directory _ _, ref := none, waiting := _, placed := _ } => 1
    | some { job := .unknown _ _, ref := none, waiting := _, placed := _ } => 1
    | _ => 0
  rx s.rx.l0 + rx s.rx.l1 + rx s.rx.t + s.mrg.queue.length + s.rep.queue.length + s.agt.queue.length + mrg + rep

/-- The three blocks that hold a part of the shadow (R180). -/
def shadowBlocks : List Block := [.classifier, .admission, .egress]

end Sys2Proof.Machine
end

