-- ==== Sys2Proof/Machine/Receivers.lean ====
section
/-! DEFINITION. Receivers.lean: the commands of the port receivers (R133 to R138), the classifier's and the replicator's
taking of link changes excepted. -/

namespace Sys2Proof.Machine

/-- The state with one receiver replaced. -/
def State.withRx (s : State) (p : Port) (r : Receiver) : State := { s with rx := s.rx.set p r }

/-- The link-change events of one change, and a lane's LANE-CHANGE notice (R137). -/
def linkMessages (p : Port) (st : Link) : List Msg :=
  match laneOf p with
  | some l => [.linkClassifier l st, .linkReplicator l st, .linkEgress p st, .notice .laneChange (laneChangeDetail l st)]
  | none => [.linkEgress p st]

/-- A receiver after its link indication has become `st` (R137): DOWN ends any reception. -/
def Receiver.linkTo (r : Receiver) (st : Link) : Receiver :=
  { r with link := st, reception := if st = .down then none else r.reception }

/-- LINK_CHANGE: the indication of `p` becomes `st` (R137). An indication that stays as it is changes nothing. -/
def execLinkChange (p : Port) (st : Link) (s : State) : Result :=
  if (s.rx.get p).link = st then .next s
  else
    .next ((({ s with pins := { s.pins with link := s.pins.link.set p st } }).withRx p ((s.rx.get p).linkTo st)).send
      (linkMessages p st))

/-- FRAME_START: a reception begins on an UP port and ends one under way as bad-length (R134). -/
def execFrameStart (p : Port) (bytes : List Byte) (s : State) : Result :=
  let r := s.rx.get p
  match r.link with
  | .down => .next s
  | .up =>
    .next (s.withRx p
      { r with
        badLength := if r.reception.isSome then bump r.badLength else r.badLength,
        reception := some { bytes := bytes.take Config.stagingBytes, length := bytes.length } })

/-- What the tests of a frame end decide (R135). -/
inductive EndTest | good | badLength | badCheck
  deriving DecidableEq, Repr

/-- The CRC-32 of R7 over all bytes but the last four equals those four (R8). -/
def checkOk (f : List Byte) : Bool := f.drop (f.length - 4) == crcBytes (f.take (f.length - 4))

/-- The four tests of a frame end in their order (R135). -/
def endTest (n : Reception) (err : Bool) : EndTest :=
  if ¬ (12 ≤ n.length ∧ n.length ≤ Config.stagingBytes) then .badLength
  else if err then .badCheck
  else if !checkOk n.bytes then .badCheck
  else if n.length ≠ frameLength n.bytes then .badLength
  else .good

/-- A receiver at the end of its reception `n` (R135, R136). -/
def Receiver.frameEnd (r : Receiver) (n : Reception) (err : Bool) : Receiver :=
  match endTest n err with
  | .badLength => { r with reception := none, badLength := bump r.badLength }
  | .badCheck => { r with reception := none, badCheck := bump r.badCheck }
  | .good =>
    match r.awaiting with
    | none => { r with reception := none, received := bump r.received, awaiting := some n.bytes }
    | some _ => { r with reception := none, received := bump r.received, overrun := bump r.overrun }

/-- FRAME_END (R135, R136). Without a reception under way it is ignored (R134). -/
def execFrameEnd (p : Port) (err : Bool) (s : State) : Result :=
  match (s.rx.get p).reception with
  | none => .next s
  | some n => .next (s.withRx p ((s.rx.get p).frameEnd n err))

/-- Picks a state read addressed to a block. -/
def selStateRead (b : Block) : Msg → Option Unit
  | .stateRead b' => if b' = b then some () else none
  | _ => none

/-- Picks a counter read addressed to a block. -/
def selCounterRead (b : Block) : Msg → Option (CounterQuery × Bool)
  | .counterRead b' q clear => if b' = b then some (q, clear) else none
  | _ => none

/-- Picks a restart request of a kind addressed to a block. -/
def selRestart (b : Block) (k : RestartKind) : Msg → Option Unit
  | .restart b' k' => if b' = b ∧ k' = k then some () else none
  | _ => none

/-- LINK_STATE_READ: a receiver reports its link state for STATUS (R137). -/
def execLinkStateRead (p : Port) (s : State) : Result :=
  s.onMsg (selStateRead (.receiver p)) fun _ s => s.send [.readAns (.receiver p) (.link (s.rx.get p).link)]

/-- RECEIVER_COUNTER_READ: received, bad-check, bad-length and the receiver's part of input-overrun, cleared when asked (R150). -/
def execReceiverCounterRead (p : Port) (s : State) : Result :=
  s.onMsg (selCounterRead (.receiver p)) fun q s =>
    let r := s.rx.get p
    (if q.2 then s.withRx p { r with received := 0, badCheck := 0, badLength := 0, overrun := 0 } else s).send
      [.readAns (.receiver p) (.counters [r.received, r.badCheck, r.badLength, r.overrun])]

/-- RECEIVER_FULL_RESTART: reception and awaiting frame go uncounted, the counters are 0, the link state is kept (R138). -/
def execReceiverFullRestart (p : Port) (s : State) : Result :=
  s.onMsg (selRestart (.receiver p) .full) fun _ s =>
    (s.withRx p (.powerOn (s.rx.get p).link)).send [.restartDone (.receiver p)]

end Sys2Proof.Machine
end

