-- ==== Sys2Proof/Machine/Classify.lean ====
section
/-! DEFINITION. Classify.lean: the commands of the classifier (R23 to R45, R208). -/

namespace Sys2Proof.Machine

/-- The state with the classifier replaced. -/
def State.withCls (s : State) (c : Classifier) : State := { s with cls := c }

/-- The classifier with its device counters replaced. -/
def State.withClsCounts (s : State) (f : ClassifierCounts → ClassifierCounts) : State :=
  s.withCls { s.cls with counts := f s.cls.counts }

/-- An input-overrun discard of a frame from `p` (R40). -/
def State.inputOverrun (s : State) (p : Port) : State :=
  s.withCls { s.cls with overrun := s.cls.overrun.set p (bump (s.cls.overrun.get p)) }

/-- An entry placed in the merge input queue, or discarded as input-overrun of `p` (R30, R40). -/
def State.toMerge (s : State) (p : Port) (e : MergeEntry) : State :=
  if s.mrg.queue.length < Config.mergeQueue then { s with mrg := { s.mrg with queue := s.mrg.queue ++ [e] } }
  else s.inputOverrun p

/-- An entry placed in the replicator input queue, or discarded as input-overrun of T (R30, R40). -/
def State.toReplicator (s : State) (e : RepEntry) : State :=
  if s.rep.queue.length < Config.replicatorQueue then { s with rep := { s.rep with queue := s.rep.queue ++ [e] } }
  else s.inputOverrun .t

/-- The agent's taking of a request placement: accepted unless the queue holds 4 (R155). -/
def Agent.place (a : Agent) (e : RequestEntry) : Agent × Bool :=
  if a.queue.length < Config.requestQueue then ({ a with queue := a.queue ++ [e] }, true) else (a, false)

/-- Whether the unknown-inbound policy forwards a frame that arrived on `l` (R35). -/
def forwardUnknown (c : Classifier) (l : Lane) : Bool :=
  match c.params.unknownInbound with
  | .discard => false
  | .all => true
  | .preferredLane => l == c.params.preferredLane || c.links.get c.params.preferredLane == .down

/-- An unknown stream from a lane (R35): counted, noticed, and forwarded or discarded. -/
def State.unknownFromLane (s : State) (l : Lane) (f : List Byte) : State :=
  let s := (s.withClsCounts fun c => { c with unknownInbound := bump c.unknownInbound }).send
    [.notice .unknownStream (keyDetail (frameKey f))]
  if forwardUnknown s.cls l then
    s.toMerge (lanePort l) (.unknown
      { key := frameKey f, lane := l, cls := frameClass f, len := frameLength f, pool := s.cls.params.unknownPool,
        gen := s.cls.gen, buf := f })
  else s

/-- Classification of a frame from a lane: the first check that decides it ends it (R31 to R35). -/
def State.classifyLane (s : State) (l : Lane) (f : List Byte) : State :=
  if !headerOk f || (trailed f && !decide (frameMark f < 2)) then
    s.withClsCounts fun c => { c with badHeader := bump c.badHeader }
  else if trailed f && frameMark f != laneCode l then
    (s.withClsCounts fun c => { c with crossed := c.crossed.set l (bump (c.crossed.get l)) }).send
      [.notice .crossedLane (laneDetail l)]
  else if frameKind f = kindRequest ∧ frameKey f = ownRequestKey s.node then
    if trailed f then
      s.toMerge (lanePort l) (.management
        { lane := l, seq := frameSeq f, restart := frameRestart f, cls := frameClass f, len := frameLength f,
          gen := s.cls.gen, buf := f })
    else s.withClsCounts fun c => { c with noTrail := bump c.noTrail }
  else match lookup s.cls.bank (frameKey f) with
  | some .inbound =>
    if trailed f then
      s.toMerge (lanePort l) (.directory
        { key := frameKey f, seq := frameSeq f, restart := frameRestart f, cls := frameClass f, len := frameLength f,
          gen := s.cls.gen, buf := f })
    else s.withClsCounts fun c => { c with noTrail := bump c.noTrail }
  | some .outbound => s.withClsCounts fun c => { c with wrongDirection := bump c.wrongDirection }
  | none => s.unknownFromLane l f

/-- Classification of a frame from T (R37 to R39). -/
def State.classifyT (s : State) (f : List Byte) : State :=
  if !headerOk f then s.withClsCounts fun c => { c with badHeader := bump c.badHeader }
  else if trailed f then s.withClsCounts fun c => { c with strayTrail := bump c.strayTrail }
  else if frameKind f = kindRequest ∧ frameKey f = ownRequestKey s.node then
    match s.agt.place { side := .t, len := payloadLen f, buf := f } with
    | (a, true) => { s with agt := a }
    | (_, false) => s.withClsCounts fun c => { c with requestOverrun := bump c.requestOverrun }
  else match lookup s.cls.bank (frameKey f) with
  | some .outbound =>
    s.toReplicator (.directory
      { key := frameKey f, cls := frameClass f, len := frameLength f, gen := s.cls.gen, buf := f })
  | some .inbound => s.withClsCounts fun c => { c with wrongDirection := bump c.wrongDirection }
  | none =>
    let s := s.withClsCounts fun c => { c with unknownOutbound := bump c.unknownOutbound }
    match s.cls.params.unknownOutbound with
    | .discard => s
    | .preferredLane =>
      s.toReplicator (.unknown
        { key := frameKey f, cls := frameClass f, len := frameLength f, pool := s.cls.params.unknownPool, gen := s.cls.gen,
          buf := f })

/-- Classification of a frame from its port (R29). -/
def State.classify (s : State) (p : Port) (f : List Byte) : State :=
  match laneOf p with
  | some l => s.classifyLane l f
  | none => s.classifyT f

/-- CLASSIFY: the classifier takes the frame awaiting at `p`, which clears it (R29, R136). -/
def execClassify (p : Port) (s : State) : Result :=
  match (s.rx.get p).awaiting with
  | none => .next s
  | some f => .next ((s.withRx p { s.rx.get p with awaiting := none }).classify p f)

/-- Picks the earliest link-change event of a lane at the classifier. -/
def selLinkClassifier (l : Lane) : Msg → Option Link
  | .linkClassifier l' st => if l' = l then some st else none
  | _ => none

/-- CLASSIFIER_LINK_CHANGE (R36). -/
def execClassifierLinkChange (l : Lane) (s : State) : Result :=
  s.onMsg (selLinkClassifier l) fun st s => s.withCls { s.cls with links := s.cls.links.set l st }

/-- Picks a shadow-create request to a block. -/
def selShadowCreate (b : Block) : Msg → Option Unit
  | .shadowCreate b' => if b' = b then some () else none
  | _ => none

/-- Picks a shadow-discard request to a block. -/
def selShadowDiscard (b : Block) : Msg → Option Unit
  | .shadowDiscard b' => if b' = b then some () else none
  | _ => none

/-- CLASSIFIER_SHADOW_CREATE (R25). -/
def execClassifierShadowCreate (s : State) : Result :=
  s.onMsg (selShadowCreate .classifier) fun _ s =>
    match s.cls.shadow with
    | some _ => s.send [.shadowCreateAns .classifier false]
    | none =>
      (s.withCls { s.cls with shadow := some { bank := s.cls.bank, params := s.cls.params } }).send
        [.shadowCreateAns .classifier true]

/-- CLASSIFIER_SHADOW_DISCARD (R25). -/
def execClassifierShadowDiscard (s : State) : Result :=
  s.onMsg (selShadowDiscard .classifier) fun _ s =>
    (s.withCls { s.cls with shadow := none }).send [.shadowDiscardAns .classifier]

/-- The shadow after a shadow write: `f` gives the new shadow or the refusal (R26). -/
def State.clsShadowWrite (s : State) (f : ClassifierShadow → Except WriteResult ClassifierShadow) : State :=
  match s.cls.shadow with
  | none => s.send [.shadowWriteAns .classifier .noShadow]
  | some sh =>
    match f sh with
    | .error r => s.send [.shadowWriteAns .classifier r]
    | .ok sh' => (s.withCls { s.cls with shadow := some sh' }).send [.shadowWriteAns .classifier .done]

/-- A record write on a shadow bank: refused SHADOW-FULL above 384 records (R26). -/
def recordWriteOn (rs : List DirRecord) (sh : ClassifierShadow) : Except WriteResult ClassifierShadow :=
  let b := writeRecords sh.bank rs
  if b.length ≤ Config.bankRecords then .ok { sh with bank := b } else .error .shadowFull

/-- A removal on a shadow bank: refused NOT-FOUND at the first absent key (R26). -/
def removalOn (ks : List Key) (sh : ClassifierShadow) : Except WriteResult ClassifierShadow :=
  match firstAbsent sh.bank ks with
  | some i => .error (.notFound i)
  | none => .ok { sh with bank := removeRecords sh.bank ks }

/-- Picks a record write. -/
def selRecordWrite : Msg → Option (List DirRecord)
  | .recordWrite rs => some rs
  | _ => none

/-- RECORD_WRITE (R26). -/
def execRecordWrite (s : State) : Result :=
  s.onMsg selRecordWrite fun rs s => s.clsShadowWrite (recordWriteOn rs)

/-- Picks a removal. -/
def selRemoval : Msg → Option (List Key)
  | .removal ks => some ks
  | _ => none

/-- REMOVAL (R26). -/
def execRemoval (s : State) : Result :=
  s.onMsg selRemoval fun ks s => s.clsShadowWrite (removalOn ks)

/-- Picks an empty-bank write. -/
def selEmptyBank : Msg → Option Unit
  | .emptyBank => some ()
  | _ => none

/-- EMPTY_BANK_WRITE (R26). -/
def execEmptyBankWrite (s : State) : Result :=
  s.onMsg selEmptyBank fun _ s => s.clsShadowWrite fun sh => .ok { sh with bank := [] }

/-- Picks a device write. -/
def selDeviceWrite : Msg → Option (List DeviceEntry)
  | .deviceWrite es => some es
  | _ => none

/-- DEVICE_WRITE (R26). -/
def execDeviceWrite (s : State) : Result :=
  s.onMsg selDeviceWrite fun es s => s.clsShadowWrite fun sh => .ok { sh with params := es.foldl DeviceParams.put sh.params }

/-- The bank of records a read names; none when the shadow is named and ABSENT (R24). -/
def Classifier.bankNamed (c : Classifier) : Bank → Option (List DirRecord)
  | .active => some c.bank
  | .shadow => c.shadow.map (·.bank)

/-- The device parameters a read names (R24). -/
def Classifier.paramsNamed (c : Classifier) : Bank → Option DeviceParams
  | .active => some c.params
  | .shadow => c.shadow.map (·.params)

/-- Picks a record read. -/
def selRecordRead : Msg → Option (Bank × Key)
  | .recordRead b k => some (b, k)
  | _ => none

/-- The answer to a record read (R24). -/
def recordAnswer (bank : Option (List DirRecord)) (k : Key) : ReadAnswer :=
  match bank with
  | none => .noShadow
  | some b => match findRecord b k with
    | some r => .record r
    | none => .noRecord

/-- RECORD_READ (R24). -/
def execRecordRead (s : State) : Result :=
  s.onMsg selRecordRead fun q s => s.send [.readAns .classifier (recordAnswer (s.cls.bankNamed q.1) q.2)]

/-- Picks a device parameter read asked for a purpose. -/
def selDeviceRead (u : Purpose) : Msg → Option (Bank × Fin 8)
  | .deviceRead u' b i => if u' = u then some (b, i) else none
  | _ => none

/-- The answer to an entry read at the classifier (R24). -/
def deviceAnswer (params : Option DeviceParams) (i : Fin 8) : ReadAnswer :=
  match params with
  | none => .noShadow
  | some p => .device (p.entry i)

/-- CLASSIFIER_ENTRY_READ (R24). -/
def execClassifierEntryRead (u : Purpose) (s : State) : Result :=
  s.onMsg (selDeviceRead u) fun q s =>
    s.send [answerTo u .classifier .unknownPool (deviceAnswer (s.cls.paramsNamed q.1) q.2)]

/-- Picks a next read asked for a purpose: bank, start key, limit. -/
def selNextRead (u : Purpose) : Msg → Option (Bank × Key × Nat)
  | .nextRead u' b k n => if u' = u then some (b, k, n) else none
  | _ => none

/-- The answer to a next read (R24). -/
def nextAnswer (bank : Option (List DirRecord)) (start : Key) (limit : Nat) : ReadAnswer :=
  match bank with
  | none => .noShadow
  | some b => .records (recordsAfter b start limit)

/-- NEXT_READ (R24). -/
def execNextRead (u : Purpose) (s : State) : Result :=
  s.onMsg (selNextRead u) fun q s =>
    s.send [answerTo u .classifier .records (nextAnswer (s.cls.bankNamed q.1) q.2.1 q.2.2)]

/-- Picks a swap request to a block. -/
def selSwap (b : Block) : Msg → Option Unit
  | .swap b' => if b' = b then some () else none
  | _ => none

/-- The classifier after a swap to the shadow `sh` (R41). -/
def Classifier.swapped (c : Classifier) (sh : ClassifierShadow) : Classifier :=
  { c with bank := sh.bank, params := sh.params, gen := c.gen + 1, shadow := none }

/-- CLASSIFIER_SWAP: swap, generation, change list and report (R41, R42). -/
def execClassifierSwap (s : State) : Result :=
  s.onMsg (selSwap .classifier) fun _ s =>
    match s.cls.shadow with
    | none => s.send [.swapReport none]
    | some sh =>
      (s.withCls (s.cls.swapped sh)).send
        [.swapReport (some
          { gen := s.cls.gen + 1, params := sh.params.agentPart, changes := changeList s.cls.bank sh.bank })]

/-- CLASSIFIER_COUNTER_READ: the device counters, or the classifier's part of a port's input-overrun, cleared when asked (R208). -/
def execClassifierCounterRead (s : State) : Result :=
  s.onMsg (selCounterRead .classifier) fun q s =>
    match q.1 with
    | .port p =>
      (if q.2 then s.withCls { s.cls with overrun := s.cls.overrun.set p 0 } else s).send
        [.readAns .classifier (.counters [s.cls.overrun.get p])]
    | _ =>
      (if q.2 then s.withCls { s.cls with counts := .zero } else s).send
        [.readAns .classifier (.counters s.cls.counts.toList)]

/-- CLASSIFIER_TRAFFIC_RESTART: the classifier keeps its state (R45). -/
def execClassifierTrafficRestart (s : State) : Result :=
  s.onMsg (selRestart .classifier .traffic) fun _ s => s.send [.restartDone .classifier]

/-- CLASSIFIER_FULL_RESTART: power-on values, the link-state copies kept (R44). -/
def execClassifierFullRestart (s : State) : Result :=
  s.onMsg (selRestart .classifier .full) fun _ s =>
    (s.withCls (.powerOn s.cls.links)).send [.restartDone .classifier]

end Sys2Proof.Machine
end

