-- ==== Sys2Proof/Machine/Admission.lean ====
section
/-! DEFINITION. Admission.lean: the commands of the admission unit (R97 to R117, R174, R206). -/

namespace Sys2Proof.Machine

/-- The state with the admission unit replaced. -/
def State.withAdm (s : State) (a : Admission) : State := { s with adm := a }

/-! ## Grants (R104 to R107) -/

/-- The first test of a grant: the named policer allows the length (R99). -/
def Admission.policerAllows (a : Admission) (q : GrantReq) : Bool :=
  match q.policer with
  | none => true
  | some i => !(a.policers[i]).enabled || q.len ≤ (a.policers[i]).credit

/-- The second test of a grant: quota, and the reserve's unused blocks left free (R104). -/
def Admission.poolAllows (a : Admission) (q : GrantReq) : Bool :=
  a.inUse[q.pool] + blocksFor q.len ≤ a.quotas[q.pool] &&
    blocksFor q.len + (Config.reserveBlocks - a.reserve) ≤ a.free

/-- A credit reduced by a granted length when the policer is enabled (R99). -/
def Policer.charge (p : Policer) (len : Nat) : Policer := if p.enabled then { p with credit := p.credit - len } else p

/-- The reference that the next grant names (R107). -/
def Admission.nextRef (a : Admission) : FrameRef := { id := a.nextId, restart := a.restarts }

/-- A new frame record with the requester's reference (R107). -/
def Admission.addRecord (a : Admission) (src : Source) (blocks : Nat) : Admission :=
  { a with
    free := a.free - blocks, nextId := a.nextId + 1,
    records := a.records ++ [{ id := a.nextId, source := src, blocks := blocks, count := 1, bytes := [], watch := false }] }

/-- A grant made as one change (R104). -/
def Admission.grant (a : Admission) (q : GrantReq) : Admission :=
  let n := blocksFor q.len
  { a.addRecord (.pool q.pool) n with
    inUse := a.inUse.set q.pool (a.inUse[q.pool] + n),
    policers := match q.policer with
      | none => a.policers
      | some i => a.policers.set i ((a.policers[i]).charge q.len) }

/-- The direction a grant's refusal is counted under (R206). -/
def requesterDirection (who : Block) : Direction := if who = .merge then .inbound else .outbound

/-- The counter entry of a key and direction changed by `f`, where the table holds one (R105, R206). -/
def Admission.updCount (a : Admission) (k : Key) (d : Direction) (f : KeyCount → KeyCount) : Admission :=
  { a with counts := a.counts.map fun c => if c.key = k ∧ c.dir = d then f c else c }

/-- A refusal counted in its key's counter; an unknown stream has none (R105). -/
def Admission.countRefusal (a : Admission) (q : GrantReq) (f : KeyCount → KeyCount) : Admission :=
  match q.stream with
  | none => a
  | some k => a.updCount k (requesterDirection q.who) f

/-- A grant request taken (R104, R105). -/
def State.grantRequest (s : State) (q : GrantReq) : State :=
  if !s.adm.policerAllows q then
    (s.withAdm (s.adm.countRefusal q fun c => { c with overRate := bump c.overRate })).send
      [.grantAns q.who q.hand .overRate]
  else if !s.adm.poolAllows q then
    (s.withAdm (s.adm.countRefusal q fun c => { c with noBuffer := bump c.noBuffer })).send
      [.grantAns q.who q.hand .noBuffer, .notice .poolExhausted (poolDetail q.pool)]
  else (s.withAdm (s.adm.grant q)).send [.grantAns q.who q.hand (.granted s.adm.nextRef)]

/-- Picks the next grant request of a block. -/
def selGrant (who : Block) : Msg → Option GrantReq
  | .grant q => if q.who = who then some q else none
  | _ => none

/-- GRANT_REQUEST (R104). -/
def execGrantRequest (who : Block) (s : State) : Result :=
  s.onMsg (selGrant who) fun q s => s.grantRequest q

/-- A reserve grant (R106). -/
def Admission.reserveGrant (a : Admission) (len : Nat) : Admission :=
  { a.addRecord .reserve (blocksFor len) with reserve := a.reserve + blocksFor len }

/-- A reserve grant request taken (R106). -/
def State.reserveGrantRequest (s : State) (who : Block) (hand len : Nat) : State :=
  if s.adm.reserve + blocksFor len ≤ Config.reserveBlocks then
    (s.withAdm (s.adm.reserveGrant len)).send [.reserveAns who hand (some s.adm.nextRef)]
  else (s.withAdm { s.adm with replyNoBuffer := bump s.adm.replyNoBuffer }).send [.reserveAns who hand none]

/-- Picks the next reserve grant request of a block: handling and length. -/
def selReserveGrant (who : Block) : Msg → Option (Nat × Nat)
  | .reserveGrant w n len => if w = who then some (n, len) else none
  | _ => none

/-- RESERVE_GRANT_REQUEST (R106). -/
def execReserveGrantRequest (who : Block) (s : State) : Result :=
  s.onMsg (selReserveGrant who) fun q s => s.reserveGrantRequest who q.1 q.2

/-- A policer at a refill expiry (R98). -/
def Policer.refilled (p : Policer) : Policer :=
  if p.enabled then { p with credit := min (p.credit + p.refill) p.ceiling } else p

/-- REFILL_EXPIRY: every enabled policer's credit rises by its refill up to its ceiling (R98); one period of 10 µs has
passed (log 3). -/
def execRefillExpiry (s : State) : Result :=
  .next
    { s with
      adm := { s.adm with policers := s.adm.policers.map Policer.refilled },
      clock := { s.clock with tens := s.clock.tens + 1 } }

/-! ## References (R108, R109, R174) -/

/-- Picks the copy-add of a copy place. -/
def selCopyAdd (place : Nat) : Msg → Option CopyReq
  | .copyAdd c => if c.place = place then some c else none
  | _ => none

/-- A copy-add taken: the count rises, or the answer is void (R108). -/
def State.copyAdd (s : State) (c : CopyReq) : State :=
  match s.adm.recordOf c.ref with
  | some _ => (s.withAdm (s.adm.updRecord c.ref fun r => { r with count := r.count + 1 })).send [.copyAddAns c true]
  | none => s.send [.copyAddAns c false]

/-- COPY_ADD (R108). -/
def execCopyAdd (place : Nat) (s : State) : Result :=
  s.onMsg (selCopyAdd place) fun c s => s.copyAdd c

/-- The blocks of a record returned to its source, and the record gone (R109). -/
def Admission.returnBlocks (a : Admission) (r : FrameRec) : Admission :=
  let a := { a with free := a.free + r.blocks, records := a.records.filter fun x => !(x.id == r.id) }
  match r.source with
  | .pool i => { a with inUse := a.inUse.set i (a.inUse[i] - r.blocks) }
  | .reserve => { a with reserve := a.reserve - r.blocks }

/-- A reference release taken (R109); the last one returns the blocks and answers a watch (R174). -/
def State.releaseRef (s : State) (ref : FrameRef) : State :=
  match s.adm.recordOf ref with
  | none => s
  | some r =>
    if r.count ≤ 1 then
      (s.withAdm (s.adm.returnBlocks r)).send (if r.watch then [.watchReturned] else [])
    else s.withAdm (s.adm.updRecord ref fun r => { r with count := r.count - 1 })

/-- Picks a release of a frame record. -/
def selRelease (frame : Nat) : Msg → Option FrameRef
  | .release ref => if ref.id = frame then some ref else none
  | _ => none

/-- REFERENCE_RELEASE (R109). -/
def execReferenceRelease (frame : Nat) (s : State) : Result :=
  s.onMsg (selRelease frame) fun ref s => s.releaseRef ref

/-- Every release of a reference that is on its way taken now, one after the other (R109). -/
def State.takeReleases (s : State) (ref : FrameRef) : State :=
  (s.net.filter fun m => m == .release ref).foldl (fun t _ => t.releaseRef ref)
    { s with net := s.net.filter fun m => !(m == .release ref) }

/-- Picks the agent's release watch. -/
def selWatch : Msg → Option FrameRef
  | .watch ref => some ref
  | _ => none

/-- RELEASE_WATCH: kept with the record, or answered at once when the record is gone (R174). -/
def execReleaseWatch (s : State) : Result :=
  s.onMsg selWatch fun ref s =>
    match s.adm.recordOf ref with
    | some _ => s.withAdm (s.adm.updRecord ref fun r => { r with watch := true })
    | none => s.send [.watchReturned]

/-! ## Staging and reading (R111, R112) -/

/-- The configuration of a policer entry (R111). -/
def Policer.cfg (p : Policer) : PolicerCfg := { enabled := p.enabled, ceiling := p.ceiling, refill := p.refill }

/-- ADMISSION_SHADOW_CREATE (R111). -/
def execAdmissionShadowCreate (s : State) : Result :=
  s.onMsg (selShadowCreate .admission) fun _ s =>
    match s.adm.shadow with
    | some _ => s.send [.shadowCreateAns .admission false]
    | none =>
      (s.withAdm { s.adm with shadow := some { policers := s.adm.policers.map Policer.cfg, quotas := s.adm.quotas } }).send
        [.shadowCreateAns .admission true]

/-- ADMISSION_SHADOW_DISCARD (R111). -/
def execAdmissionShadowDiscard (s : State) : Result :=
  s.onMsg (selShadowDiscard .admission) fun _ s =>
    (s.withAdm { s.adm with shadow := none }).send [.shadowDiscardAns .admission]

/-- A shadow write at the admission unit, taken whole (R111). -/
def State.admShadowWrite (s : State) (f : AdmissionShadow → AdmissionShadow) : State :=
  match s.adm.shadow with
  | none => s.send [.shadowWriteAns .admission .noShadow]
  | some sh => (s.withAdm { s.adm with shadow := some (f sh) }).send [.shadowWriteAns .admission .done]

/-- One staged policer entry set (R111). -/
def AdmissionShadow.putPolicer (sh : AdmissionShadow) (e : PolicerEntry) : AdmissionShadow :=
  { sh with policers := sh.policers.set e.index { enabled := e.enabled, ceiling := e.ceiling, refill := e.refill } }

/-- One staged quota set (R111). -/
def AdmissionShadow.putPool (sh : AdmissionShadow) (e : PoolEntry) : AdmissionShadow :=
  { sh with quotas := sh.quotas.set e.index e.quota }

/-- Picks a policer write. -/
def selPolicerWrite : Msg → Option (List PolicerEntry)
  | .policerWrite es => some es
  | _ => none

/-- POLICER_WRITE (R111). -/
def execPolicerWrite (s : State) : Result :=
  s.onMsg selPolicerWrite fun es s => s.admShadowWrite fun sh => es.foldl AdmissionShadow.putPolicer sh

/-- Picks a pool write. -/
def selPoolWrite : Msg → Option (List PoolEntry)
  | .poolWrite es => some es
  | _ => none

/-- POOL_WRITE (R111). -/
def execPoolWrite (s : State) : Result :=
  s.onMsg selPoolWrite fun es s => s.admShadowWrite fun sh => es.foldl AdmissionShadow.putPool sh

/-- Picks an entry read of one entry asked for a purpose. -/
def selEntryRead (u : Purpose) (e : TableEntry) : Msg → Option Bank
  | .entryRead u' b e' => if u' = u ∧ e' = e then some b else none
  | _ => none

/-- The answer to an entry read (R112): an active policer with its credit. -/
def Admission.entryAnswer (a : Admission) (b : Bank) (e : TableEntry) : ReadAnswer :=
  match b, a.shadow, e with
  | .active, _, .policer i =>
    let p := a.policers[i]
    .policer { index := i, enabled := p.enabled, ceiling := p.ceiling, refill := p.refill } (some p.credit)
  | .active, _, .pool i => .pool { index := i, quota := a.quotas[i] }
  | .shadow, none, _ => .noShadow
  | .shadow, some sh, .policer i =>
    let p := sh.policers[i]
    .policer { index := i, enabled := p.enabled, ceiling := p.ceiling, refill := p.refill } none
  | .shadow, some sh, .pool i => .pool { index := i, quota := sh.quotas[i] }

/-- The check read that an entry read is. -/
def checkReadOf : TableEntry → CheckRead
  | .policer i => .policer i
  | .pool i => .pool i

/-- ADMISSION_ENTRY_READ (R112). -/
def execAdmissionEntryRead (u : Purpose) (e : TableEntry) (s : State) : Result :=
  s.onMsg (selEntryRead u e) fun b s => s.send [answerTo u .admission (checkReadOf e) (s.adm.entryAnswer b e)]

/-- ADMISSION_STATE_READ (R112). -/
def execAdmissionStateRead (s : State) : Result :=
  s.onMsg (selStateRead .admission) fun _ s =>
    s.send [.readAns .admission (.memory s.adm.free s.adm.reserve s.adm.inUse)]

/-- The over-rate and no-buffer that a counter read returns (R112). -/
def Admission.countsOf (a : Admission) (k : Key) (d : Direction) : List Word32 :=
  match a.counts.find? fun c => decide (c.key = k ∧ c.dir = d) with
  | some c => [c.overRate, c.noBuffer]
  | none => [0, 0]

/-- ADMISSION_COUNTER_READ: of a key and direction, or of the reply stream under the own reply key OUTBOUND (R112). -/
def execAdmissionCounterRead (s : State) : Result :=
  s.onMsg (selCounterRead .admission) fun q s =>
    match q.1 with
    | .key k d =>
      if k = ownReplyKey s.node ∧ d = .outbound then
        (if q.2 then s.withAdm { s.adm with replyNoBuffer := 0 } else s).send
          [.readAns .admission (.counters [0, s.adm.replyNoBuffer])]
      else
        (if q.2 then s.withAdm (s.adm.updCount k d fun c => { c with overRate := 0, noBuffer := 0 }) else s).send
          [.readAns .admission (.counters (s.adm.countsOf k d))]
    | _ => s.send [.readAns .admission .noSet]

/-- Picks the next create or delete of a block for a key; creates and deletes of one block and key keep their order (log 8). -/
def selCountChange (who : Block) (k : Key) : Msg → Option Bool
  | .countCreate w k' => if w = who ∧ k' = k then some true else none
  | .countDelete w k' => if w = who ∧ k' = k then some false else none
  | _ => none

/-- Whether the table of R105 holds an entry of a key and direction. -/
def Admission.hasCount (a : Admission) (k : Key) (d : Direction) : Bool :=
  a.counts.any fun c => decide (c.key = k ∧ c.dir = d)

/-- An entry created at zero unless present (R206). -/
def Admission.createCount (a : Admission) (k : Key) (d : Direction) : Admission :=
  if a.hasCount k d then a else { a with counts := a.counts ++ [{ key := k, dir := d, overRate := 0, noBuffer := 0 }] }

/-- An entry deleted if present (R206). -/
def Admission.deleteCount (a : Admission) (k : Key) (d : Direction) : Admission :=
  { a with counts := a.counts.filter fun c => !decide (c.key = k ∧ c.dir = d) }

/-- COUNTER_ENTRY_CREATE (R206); it does not occur while the block's next change of this key is a delete (log 8). One that was
on its way at a FULL restart is taken afterwards like any other (the model's choice, log 30). -/
def execCounterEntryCreate (who : Block) (k : Key) (s : State) : Result :=
  match takeFirst (selCountChange who k) s.net with
  | some (true, rest) => .next ({ s with net := rest }.withAdm (s.adm.createCount k (requesterDirection who)))
  | _ => .next s

/-- COUNTER_ENTRY_DELETE (R206); it does not occur while the block's next change of this key is a create (log 8). One that was
on its way at a FULL restart is taken afterwards like any other (the model's choice, log 30). -/
def execCounterEntryDelete (who : Block) (k : Key) (s : State) : Result :=
  match takeFirst (selCountChange who k) s.net with
  | some (false, rest) => .next ({ s with net := rest }.withAdm (s.adm.deleteCount k (requesterDirection who)))
  | _ => .next s

/-! ## Swap and restarts (R113 to R117) -/

/-- A policer entry at the swap to a new configuration (R113). -/
def Policer.swapTo (p : Policer) (c : PolicerCfg) : Policer :=
  { enabled := c.enabled, ceiling := c.ceiling, refill := c.refill,
    credit := if !p.enabled && c.enabled then c.ceiling else min p.credit c.ceiling }

/-- The admission unit after a swap to the shadow `sh` (R113, R114). -/
def Admission.swapped (a : Admission) (sh : AdmissionShadow) : Admission :=
  { a with policers := Vector.zipWith Policer.swapTo a.policers sh.policers, quotas := sh.quotas, shadow := none }

/-- ADMISSION_SWAP (R113). -/
def execAdmissionSwap (s : State) : Result :=
  s.onMsg (selSwap .admission) fun _ s =>
    match s.adm.shadow with
    | none => s.send [.swapDone .admission false]
    | some sh => (s.withAdm (s.adm.swapped sh)).send [.swapDone .admission true]

/-- The admission unit after a TRAFFIC restart (R117). -/
def Admission.trafficRestart (a : Admission) : Admission :=
  { a with
    restarts := a.restarts + 1, records := [], inUse := Vector.replicate 8 0, reserve := 0, free := Config.blocks,
    policers := a.policers.map fun p => { p with credit := p.ceiling } }

/-- ADMISSION_TRAFFIC_RESTART (R117). -/
def execAdmissionTrafficRestart (s : State) : Result :=
  s.onMsg (selRestart .admission .traffic) fun _ s =>
    (s.withAdm s.adm.trafficRestart).send [.restartDone .admission]

/-- ADMISSION_FULL_RESTART: power-on values, the restart count raised (R116); record numbers run on (log 7). -/
def execAdmissionFullRestart (s : State) : Result :=
  s.onMsg (selRestart .admission .full) fun _ s =>
    (s.withAdm { Admission.powerOn with restarts := s.adm.restarts + 1, nextId := s.adm.nextId }).send
      [.restartDone .admission]

end Sys2Proof.Machine
end

