-- ==== Sys2Proof/Machine/Egress.lean ====
section
/-! DEFINITION. Egress.lean: the commands of the egress unit (R139 to R153). -/

namespace Sys2Proof.Machine

/-- The state with the egress unit replaced. -/
def State.withEgr (s : State) (e : Egress) : State := { s with egr := e }

/-- The state with one port of the egress unit replaced. -/
def State.withPort (s : State) (p : Port) (x : PortEgress) : State :=
  { s with egr := { s.egr with ports := s.egr.ports.set p x } }

/-- Descriptor slots occupied: the places in the port's four queues (R139). -/
def PortEgress.slots (x : PortEgress) : Nat :=
  x.queues.c0.length + x.queues.c1.length + x.queues.c2.length + x.queues.c3.length

/-! ## Transmission (R143, R144) -/

/-- The bytes that a copy sends on a port (R144). -/
def wireBytes (stored : List Byte) (c : CopyPlace) : List Byte :=
  match c.mark with
  | some l => markedCopy stored l
  | none => if c.strip then strippedCopy stored else stored

/-- The PLACED head of a queue, with the places behind it (R143). -/
def placedHead (q : List CopyPlace) : Option (CopyPlace × List CopyPlace) :=
  match q with
  | c :: rest => if c.placed then some (c, rest) else none
  | [] => none

/-- The head of the highest-class queue with a PLACED head, and the queues without it (R143). -/
def choose (q : PerClass (List CopyPlace)) : Option (CopyPlace × PerClass (List CopyPlace)) :=
  match placedHead q.c3 with
  | some (c, rest) => some (c, { q with c3 := rest })
  | none => match placedHead q.c2 with
    | some (c, rest) => some (c, { q with c2 := rest })
    | none => match placedHead q.c1 with
      | some (c, rest) => some (c, { q with c1 := rest })
      | none => match placedHead q.c0 with
        | some (c, rest) => some (c, { q with c0 := rest })
        | none => none

/-- A port's transmitter chooses, when it is IDLE and the port is UP (R143). -/
def State.transmit (s : State) (p : Port) : State :=
  let x := s.egr.ports.get p
  if x.link = .up ∧ x.tx = none then
    match choose x.queues with
    | some (c, q) =>
      State.withPort { s with egr := { s.egr with nextTx := s.egr.nextTx + 1 } } p
        { x with queues := q, tx := some { number := s.egr.nextTx, copy := c, wire := wireBytes (s.adm.stored c.ref) c } }
    | none => s
  else s

/-! ## Enqueues (R140 to R142) -/

/-- The refusal of an enqueue, in the first case that applies (R140). -/
def Egress.refusal (g : Egress) (e : Enqueue) : Option EnqResult :=
  let x := g.ports.get e.port
  if x.link = .down then some .down
  else if x.limits.get e.cls ≤ (x.queues.get e.cls).length then some .full
  else if Config.slots ≤ x.slots then some .full
  else if e.ref.restart ≠ g.restarts then some .void
  else none

/-- A RESERVED place added at the tail of its class queue (R141). -/
def PortEgress.reserve (x : PortEgress) (n : Nat) (e : Enqueue) : PortEgress :=
  { x with
    queues := x.queues.set e.cls
      (x.queues.get e.cls ++ [{ place := n, placed := false, ref := e.ref, mark := e.mark, strip := e.strip }]) }

/-- An enqueue request taken (R140, R141). -/
def State.enqueueRequest (s : State) (e : Enqueue) : State :=
  match s.egr.refusal e with
  | some r => s.send [.enqueueAns e.tag e.ref r]
  | none =>
    (State.withPort { s with egr := { s.egr with nextPlace := s.egr.nextPlace + 1 } } e.port
      ((s.egr.ports.get e.port).reserve s.egr.nextPlace e)).send
      [.copyAdd { place := s.egr.nextPlace, port := e.port, ref := e.ref, tag := e.tag }]

/-- Picks the next enqueue request of a block (R142). -/
def selEnqueue (who : Block) : Msg → Option Enqueue
  | .enqueue e => if e.tag.sender = who then some e else none
  | _ => none

/-- ENQUEUE_REQUEST (R140). -/
def execEnqueueRequest (who : Block) (s : State) : Result :=
  s.onMsg (selEnqueue who) fun e s => s.enqueueRequest e

/-- `f` applied to each of a port's four queues. -/
def PerClass.map {α β : Type} (v : PerClass α) (f : α → β) : PerClass β := ⟨f v.c0, f v.c1, f v.c2, f v.c3⟩

/-- Whether a port holds a place of a number. -/
def PortEgress.hasPlace (x : PortEgress) (n : Nat) : Bool :=
  let h (q : List CopyPlace) := q.any fun c => c.place == n
  h x.queues.c0 || h x.queues.c1 || h x.queues.c2 || h x.queues.c3

/-- A place made PLACED where it stands (R141). -/
def PortEgress.makePlaced (x : PortEgress) (n : Nat) : PortEgress :=
  { x with queues := x.queues.map fun q => q.map fun c => if c.place = n then { c with placed := true } else c }

/-- A place removed (R141). -/
def PortEgress.dropPlace (x : PortEgress) (n : Nat) : PortEgress :=
  { x with queues := x.queues.map fun q => q.filter fun c => !(c.place == n) }

/-- A copy-add answer taken (R141); for a place that a restart removed, R152. -/
def State.copyAddAnswer (s : State) (c : CopyReq) (held : Bool) : State :=
  let x := s.egr.ports.get c.port
  if !x.hasPlace c.place then
    s.send ((if held then [.release c.ref] else []) ++ [.enqueueAns c.tag c.ref .down])
  else if !held then
    ((s.withPort c.port (x.dropPlace c.place)).send [.enqueueAns c.tag c.ref .void]).transmit c.port
  else if x.link = .down then
    (s.withPort c.port (x.dropPlace c.place)).send [.release c.ref, .enqueueAns c.tag c.ref .down]
  else
    ((s.withPort c.port (x.makePlaced c.place)).send [.enqueueAns c.tag c.ref .placed]).transmit c.port

/-- Picks the copy-add answer of a copy place. -/
def selCopyAddAns (place : Nat) : Msg → Option (CopyReq × Bool)
  | .copyAddAns c held => if c.place = place then some (c, held) else none
  | _ => none

/-- COPY_ADD_ANSWER (R141). -/
def execCopyAddAnswer (place : Nat) (s : State) : Result :=
  s.onMsg (selCopyAddAns place) fun q s => s.copyAddAnswer q.1 q.2

/-! ## Completion and link changes (R145 to R147) -/

/-- TRANSMIT_COMPLETION: ends the transmission it names and the transmitter chooses again; another is ignored (R145). -/
def execTransmitCompletion (p : Port) (tx : Nat) (s : State) : Result :=
  let x := s.egr.ports.get p
  match x.tx with
  | none => .next s
  | some t =>
    if t.number = tx then
      .next (((s.withPort p { x with tx := none, transmitted := bump x.transmitted }).send [.release t.copy.ref]).transmit p)
    else .next s

/-- Picks the earliest link-change event of a port at the egress unit. -/
def selLinkEgress (p : Port) : Msg → Option Link
  | .linkEgress p' st => if p' = p then some st else none
  | _ => none

/-- The PLACED places of a port's queues. -/
def PortEgress.placed (x : PortEgress) : List CopyPlace :=
  let f (q : List CopyPlace) := q.filter (·.placed)
  f x.queues.c3 ++ f x.queues.c2 ++ f x.queues.c1 ++ f x.queues.c0

/-- A port after its change to DOWN: transmission aborted, PLACED copies flushed, RESERVED places kept (R146). -/
def PortEgress.linkDown (x : PortEgress) : PortEgress :=
  { x with
    link := .down, tx := none,
    aborted := if x.tx.isSome then bump x.aborted else x.aborted,
    flushed := count x.flushed x.placed.length,
    queues := x.queues.map fun q => q.filter fun c => !c.placed }

/-- The references released at a change to DOWN (R146). -/
def PortEgress.linkDownReleases (x : PortEgress) : List Msg :=
  (x.tx.toList.map fun t => .release t.copy.ref) ++ x.placed.map fun c => .release c.ref

/-- EGRESS_LINK_DOWN: taken when the port's earliest link-change event is to DOWN (R146). -/
def execEgressLinkDown (p : Port) (s : State) : Result :=
  match takeFirst (selLinkEgress p) s.net with
  | some (.down, rest) =>
    let x := s.egr.ports.get p
    .next ((State.withPort { s with net := rest } p x.linkDown).send x.linkDownReleases)
  | _ => .next s

/-- EGRESS_LINK_UP: taken when the port's earliest link-change event is to UP (R147). -/
def execEgressLinkUp (p : Port) (s : State) : Result :=
  match takeFirst (selLinkEgress p) s.net with
  | some (.up, rest) => .next ((State.withPort { s with net := rest } p { s.egr.ports.get p with link := .up }).transmit p)
  | _ => .next s

/-! ## Staging, reads, swap (R148 to R150) -/

/-- The active limits of the three ports. -/
def Egress.limits (g : Egress) : PerPort (PerClass Nat) := ⟨g.ports.l0.limits, g.ports.l1.limits, g.ports.t.limits⟩

/-- EGRESS_SHADOW_CREATE (R148). -/
def execEgressShadowCreate (s : State) : Result :=
  s.onMsg (selShadowCreate .egress) fun _ s =>
    match s.egr.shadow with
    | some _ => s.send [.shadowCreateAns .egress false]
    | none => (s.withEgr { s.egr with shadow := some s.egr.limits }).send [.shadowCreateAns .egress true]

/-- EGRESS_SHADOW_DISCARD (R148). -/
def execEgressShadowDiscard (s : State) : Result :=
  s.onMsg (selShadowDiscard .egress) fun _ s =>
    (s.withEgr { s.egr with shadow := none }).send [.shadowDiscardAns .egress]

/-- One staged limit set (R148). -/
def putLimit (v : PerPort (PerClass Nat)) (e : QueueEntry) : PerPort (PerClass Nat) :=
  v.set e.port ((v.get e.port).set e.cls e.limit)

/-- Picks a queue write. -/
def selQueueWrite : Msg → Option (List QueueEntry)
  | .queueWrite es => some es
  | _ => none

/-- QUEUE_WRITE (R148). -/
def execQueueWrite (s : State) : Result :=
  s.onMsg selQueueWrite fun es s =>
    match s.egr.shadow with
    | none => s.send [.shadowWriteAns .egress .noShadow]
    | some v => (s.withEgr { s.egr with shadow := some (es.foldl putLimit v) }).send [.shadowWriteAns .egress .done]

/-- Picks a limit read of one queue asked for a purpose. -/
def selLimitRead (u : Purpose) (p : Port) (c : Class) : Msg → Option Bank
  | .limitRead u' b p' c' => if u' = u ∧ p' = p ∧ c' = c then some b else none
  | _ => none

/-- The answer to an entry read at the egress unit (R148). -/
def Egress.limitAnswer (g : Egress) (b : Bank) (p : Port) (c : Class) : ReadAnswer :=
  match b, g.shadow with
  | .active, _ => .limit { port := p, cls := c, limit := (g.limits.get p).get c }
  | .shadow, none => .noShadow
  | .shadow, some v => .limit { port := p, cls := c, limit := (v.get p).get c }

/-- EGRESS_ENTRY_READ (R148). -/
def execEgressEntryRead (u : Purpose) (p : Port) (c : Class) (s : State) : Result :=
  s.onMsg (selLimitRead u p c) fun b s => s.send [answerTo u .egress (.limit p c) (s.egr.limitAnswer b p c)]

/-- The egress unit after a swap to the limits `v`; the places stay (R149). -/
def Egress.swapped (g : Egress) (v : PerPort (PerClass Nat)) : Egress :=
  { g with
    shadow := none,
    ports := ⟨{ g.ports.l0 with limits := v.l0 }, { g.ports.l1 with limits := v.l1 }, { g.ports.t with limits := v.t }⟩ }

/-- EGRESS_SWAP (R149). -/
def execEgressSwap (s : State) : Result :=
  s.onMsg (selSwap .egress) fun _ s =>
    match s.egr.shadow with
    | none => s.send [.swapDone .egress false]
    | some v => (s.withEgr (s.egr.swapped v)).send [.swapDone .egress true]

/-- EGRESS_COUNTER_READ: a port's transmitted, aborted and flushed, cleared when asked (R150). -/
def execEgressCounterRead (s : State) : Result :=
  s.onMsg (selCounterRead .egress) fun q s =>
    match q.1 with
    | .port p =>
      let x := s.egr.ports.get p
      (if q.2 then s.withPort p { x with transmitted := 0, aborted := 0, flushed := 0 } else s).send
        [.readAns .egress (.counters [x.transmitted, x.aborted, x.flushed])]
    | _ => s.send [.readAns .egress .noSet]

/-! ## Restarts (R151, R152) -/

/-- A port at a TRAFFIC restart: every place removed, the transmission ended, uncounted (R152). -/
def PortEgress.emptied (x : PortEgress) : PortEgress := { x with queues := ⟨[], [], [], []⟩, tx := none }

/-- The egress unit after a TRAFFIC restart (R152). -/
def Egress.trafficRestart (g : Egress) : Egress :=
  { g with ports := ⟨g.ports.l0.emptied, g.ports.l1.emptied, g.ports.t.emptied⟩, restarts := g.restarts + 1 }

/-- EGRESS_TRAFFIC_RESTART (R152). -/
def execEgressTrafficRestart (s : State) : Result :=
  s.onMsg (selRestart .egress .traffic) fun _ s => (s.withEgr s.egr.trafficRestart).send [.restartDone .egress]

/-- The egress unit after a FULL restart: power-on values, link-state copies kept, restart count raised (R151); place and
transmission numbers run on (log 7). -/
def Egress.fullRestart (g : Egress) : Egress :=
  { Egress.powerOn ⟨g.ports.l0.link, g.ports.l1.link, g.ports.t.link⟩ with
    restarts := g.restarts + 1, nextPlace := g.nextPlace, nextTx := g.nextTx }

/-- EGRESS_FULL_RESTART (R151). -/
def execEgressFullRestart (s : State) : Result :=
  s.onMsg (selRestart .egress .full) fun _ s => (s.withEgr s.egr.fullRestart).send [.restartDone .egress]

end Sys2Proof.Machine
end

