-- ==== Sys2Proof/Machine/Recovery.lean ====
section
/-! DEFINITION. Recovery.lean: what happens to one recovery record: verdicts (R53 to R59), the recording of an acceptance
(R64 to R66, R82), releases (R83, R84), the window push (R90), the hold expiry (R87) and the reconciliations (R200, R201). -/

namespace Sys2Proof.Machine

/-- `s` ahead of `r`, modulo 65536 (R47). -/
def seqAhead (s r : Seq) : Nat := (s - r).toNat

/-- The verdicts of R53 after WITHDRAWN. -/
inductive Judged | duplicate | late | outOfWindow | candidate (v : Verdict)
  deriving DecidableEq, Repr

/-- The frames on a record's hold list, ascending. -/
def Recovery.held (r : Recovery) : List Held :=
  match r.tracking with
  | some t => match t.ordered with
    | some o => o.held
    | none => []
  | none => []

/-- A record reset to FRESH (R46). -/
def Recovery.reset (r : Recovery) : Recovery := { r with rogue := 0, tracking := none }

/-- Where an ACCEPT candidate goes: IN-ORDER holds it unless it is at N (R57, R58, R79). -/
def Tracking.destination (t : Tracking) (s : Seq) : Verdict :=
  match t.ordered with
  | none => .deliver
  | some o => if s = o.nxt then .deliver else .hold

/-- The judgement of an arrival at a TRACKING record by its position (R57 to R59, steps 4 to 6 of R53). -/
def Tracking.judge (t : Tracking) (w : Nat) (s : Seq) : Judged :=
  let d := seqAhead s t.lead
  let b := seqAhead t.lead s
  if 1 ≤ d ∧ d < w then .candidate (t.destination s)
  else if b < w then
    match t.window.getD b .waived with
    | .vacant => .candidate (t.destination s)
    | .accepted => .duplicate
    | .waived => .late
  else .outOfWindow

/-- A judgement with what it does to the record: the record, the counters, the held frames it releases, whether it raises
STREAM-RESET. -/
structure Judgement where
  recov : Recovery
  counts : InCounts
  released : List Held
  alarm : Bool
  judged : Judged
  deriving DecidableEq, Repr

/-- The reset of a TRACKING record by an arrival, which becomes a take-any candidate (R55, R59, R92). -/
def resetForArrival (r : Recovery) (c : InCounts) (alarm : Bool) : Judgement :=
  { recov := r.reset, counts := { c with resets := bump c.resets }, released := r.held, alarm := alarm,
    judged := .candidate .takeAny }

/-- The judgement of an arrival at sequence `s` against a record with window `w` and rogue threshold `rogue`: steps 2 to 6
of R53 (R55 to R60). -/
def judge (w rogue : Nat) (r : Recovery) (c : InCounts) (s : Seq) (restart : Bool) : Judgement :=
  match r.tracking with
  | none => { recov := r.reset, counts := c, released := [], alarm := false, judged := .candidate .takeAny }
  | some t =>
    match restart, t.judge w s with
    | _, .duplicate =>
      { recov := r, counts := { c with duplicate := bump c.duplicate }, released := [], alarm := false, judged := .duplicate }
    | _, .late =>
      { recov := r, counts := { c with late := bump c.late }, released := [], alarm := false, judged := .late }
    | true, _ => resetForArrival r c false
    | false, .candidate v => { recov := r, counts := c, released := [], alarm := false, judged := .candidate v }
    | false, .outOfWindow =>
      let c' := { c with outOfWindow := bump c.outOfWindow }
      let n := min (r.rogue + 1) Config.rogueMax
      if rogue ≠ 0 ∧ n = rogue then resetForArrival r c' true
      else { recov := { r with rogue := n }, counts := c', released := [], alarm := false, judged := .outOfWindow }

/-- The earliest deadline of a hold list (R86). -/
def earliest : List Held → Option Nat
  | [] => none
  | h :: hs =>
    match earliest hs with
    | none => some h.deadline
    | some d => some (min h.deadline d)

/-- A frame joins a hold list at its place in the order from `n` (R77). -/
def joinHold (n : Seq) (h : Held) : List Held → List Held
  | [] => [h]
  | x :: xs => if seqAhead h.seq n < seqAhead x.seq n then h :: x :: xs else x :: joinHold n h xs

/-- Consecutive release from N (R84): the new N, the frames still held, the frames released. -/
def releaseRun (n : Seq) : List Held → Seq × List Held × List Held
  | [] => (n, [], [])
  | h :: hs =>
    if h.seq = n then
      let (n', held, out) := releaseRun (n + 1) hs
      (n', held, h :: out)
    else (n, h :: hs, [])

/-- The IN-ORDER part after an acceptance (R82, steps 2 and 4 to 6): `entry` joins the hold list, or a delivered frame at
`s` has gone; the window bottom is `bottom`, and `lead` the lead. Answers the new part and the frames released. -/
def Ordered.accepted (o : Ordered) (lead : Seq) (w : Nat) (s : Seq) (entry : Option Held) : Ordered × List Held :=
  let held := match entry with
    | some h => joinHold o.nxt h o.held
    | none => o.held
  let bottom := lead - BitVec.ofNat 16 w + 1
  let push := w < seqAhead (lead + 1) o.nxt
  let n1 := if push then bottom else o.nxt
  let out1 := if push then held.takeWhile fun h => decide (seqAhead h.seq o.nxt < seqAhead bottom o.nxt) else []
  let held1 := held.drop out1.length
  let n2 := if entry.isNone ∧ s = n1 then n1 + 1 else n1
  let (n3, held2, out2) := releaseRun n2 held1
  ({ nxt := n3, held := held2, timer := earliest held2 }, out1 ++ out2)

/-- The window of a take-any acceptance: the arriving position ACCEPTED, those below it WAIVED (R65). -/
def takeAnyWindow (w : Nat) : List Pos := .accepted :: List.replicate (w - 1) .waived

/-- The window after an advance by `d` (R66). -/
def advanceWindow (w d : Nat) (win : List Pos) : List Pos :=
  ((Pos.accepted :: List.replicate (d - 1) Pos.vacant) ++ win).take w

/-- The OPEN positions that leave the window at an advance by `d` (R66). -/
def leavingOpen (w d : Nat) (win : List Pos) : Nat := (win.drop (w - d)).count .vacant

/-- The expiry of a silence timer started now; a silence time of 0 runs no timer (R64, R68). -/
def silenceFrom (now silence : Nat) : Option Nat := if silence = 0 then none else some (now + silence)

/-- What the recording of an acceptance does: the record, the OPEN positions counted lost, the held frames released. -/
structure Acceptance where
  recov : Recovery
  lost : Nat
  released : List Held
  deriving DecidableEq, Repr

/-- The recording of an acceptance at `s` (R64 to R66, R82): window `w`, silence time `silence`, IN-ORDER or not, with the
hold entry of a frame to be held. -/
def accept (w silence : Nat) (inOrder : Bool) (now : Nat) (r : Recovery) (s : Seq) (entry : Option Held) : Acceptance :=
  match r.tracking with
  | none =>
    { recov :=
        { r with
          rogue := 0,
          tracking := some
            { lead := s, window := takeAnyWindow w, silence := silenceFrom now silence,
              ordered := if inOrder then some { nxt := s + 1, held := [], timer := none } else none } },
      lost := 0, released := [] }
  | some t =>
    let d := seqAhead s t.lead
    let ahead := 1 ≤ d ∧ d < w
    let lead := if ahead then s else t.lead
    let window := if ahead then advanceWindow w d t.window else t.window.set (seqAhead t.lead s) .accepted
    let lost := if ahead then leavingOpen w d t.window else 0
    match t.ordered with
    | none =>
      { recov := { r with rogue := 0,
                          tracking := some { lead := lead, window := window, silence := silenceFrom now silence, ordered := none } },
        lost := lost, released := [] }
    | some o =>
      let (o', out) := o.accepted lead w s entry
      { recov := { r with rogue := 0,
                          tracking := some { lead := lead, window := window, silence := silenceFrom now silence, ordered := some o' } },
        lost := lost, released := out }

/-- A window with the OPEN positions from `n` up to below `f` WAIVED (R87, step 1). -/
def waiveBelow (lead n f : Seq) (win : List Pos) : List Pos :=
  win.mapIdx fun i p => if p = .vacant ∧ seqAhead (lead - BitVec.ofNat 16 i) n < seqAhead f n then .waived else p

/-- The frames up to the highest whose deadline has come, and the frames above it (R87). -/
def splitExpired (now : Nat) (hs : List Held) : List Held × List Held :=
  let above := (hs.reverse.takeWhile fun h => decide (now < h.deadline)).length
  (hs.take (hs.length - above), hs.drop (hs.length - above))

/-- The hold timer's expiry at `now` on a TRACKING IN-ORDER record (R87): the record, the positions counted lost, the
frames released. -/
def expireHold (now : Nat) (t : Tracking) (o : Ordered) : Tracking × Nat × List Held :=
  match (splitExpired now o.held).1.getLast? with
  | none => (t, 0, [])
  | some f =>
    let window := waiveBelow t.lead o.nxt f.seq t.window
    let lost := t.window.count .vacant - window.count .vacant
    let (n, held, out) := releaseRun (f.seq + 1) (splitExpired now o.held).2
    ({ t with window := window, ordered := some { nxt := n, held := held, timer := earliest held } }, lost,
      (splitExpired now o.held).1 ++ out)

/-- The silence timer of a TRACKING record after an OTHER-CHANGED reconciliation (R68). -/
def silenceAfterChange (now silence : Nat) (timer : Option Nat) : Option Nat :=
  if silence = 0 then none
  else match timer with
    | some e => some e
    | none => some (now + silence)

/-- The recovery record after an OTHER-CHANGED reconciliation (R201). -/
def Recovery.otherChanged (r : Recovery) (rogue silence now : Nat) : Recovery :=
  { r with
    rogue := if rogue ≠ 0 ∧ rogue ≤ r.rogue then rogue - 1 else r.rogue,
    tracking := r.tracking.map fun t => { t with silence := silenceAfterChange now silence t.silence } }

/-- The silence timer of a record has come (R68). -/
def Recovery.silenceDue (r : Recovery) (now : Nat) : Bool :=
  match r.tracking with
  | some t => match t.silence with
    | some e => decide (e ≤ now)
    | none => false
  | none => false

/-- The hold timer of a record has come (R86). -/
def Recovery.holdDue (r : Recovery) (now : Nat) : Bool :=
  match r.tracking with
  | some t => match t.ordered with
    | some o => match o.timer with
      | some e => decide (e ≤ now)
      | none => false
    | none => false
  | none => false

/-! ## The laws of one record -/

/-- The law of R46 for one record with window `w`: the window has exactly W positions and its lead is ACCEPTED. -/
def Recovery.shapeOk (r : Recovery) (w : Nat) (inOrder : Bool) : Bool :=
  match r.tracking with
  | none => true
  | some t => t.window.length == w && t.window.getD 0 .vacant == .accepted && t.ordered.isSome == inOrder

end Sys2Proof.Machine
end

