-- ==== Sys2Proof/Machine/MergeTake.lean ====
section
/-! DEFINITION. MergeTake.lean: the merge engine's streams, its reconciliation of a key (R52, R197 to R201) and its taking
of an entry from its input queue (R50 to R61, R70 to R72). -/

namespace Sys2Proof.Machine

/-- The state with the merge engine replaced. -/
def State.withMrg (s : State) (m : Merge) : State := { s with mrg := m }

/-- The stream of an inbound key (R46). -/
def Merge.find (m : Merge) (k : Key) : Option Stream := m.streams.find? fun st => st.key == k

/-- The merge engine with `f` applied to the stream of a key. -/
def Merge.upd (m : Merge) (k : Key) (f : Stream → Stream) : Merge :=
  { m with streams := m.streams.map fun st => if st.key = k then f st else st }

/-- The hold entries not free: the frames on all hold lists (R78). -/
def Merge.holdInUse (m : Merge) : Nat := (m.streams.map fun st => st.recov.held.length).sum

/-- The enqueue request of a released frame, by the parameters of its stream at the release (R83). -/
def releaseMsg (st : Stream) (h : Held) : Msg :=
  .enqueue { port := .t, cls := st.params.cls.queue h.cls, ref := h.ref, mark := none, strip := st.params.strip,
             tag := .release st.key st.recov.born }

/-! ## Reconciliation of one key -/

/-- The inbound parameters of a record (R49). -/
def inParamsOf (r : DirRecord) : Option InParams :=
  match r.fields with
  | .inbound f => some { f with policer := r.policer, pool := r.pool, cls := r.cls }
  | .outbound _ => none

/-- Whether a change-list entry concerns the merge engine (R197). -/
def Merge.concerns (m : Merge) (e : ChangeEntry) : Bool :=
  match e.cat with
  | .removed => (m.find e.key).isSome
  | .added r => r.direction == .inbound
  | .recoveryChanged r => r.direction == .inbound
  | .otherChanged r => r.direction == .inbound

/-- A REMOVED reconciliation (R198): held frames discarded into withdrawn, the stream and its counters deleted. -/
def State.mergeRemoved (s : State) (k : Key) : State :=
  match s.mrg.find k with
  | none => s
  | some st =>
    (s.withMrg
      { s.mrg with
        withdrawn := count s.mrg.withdrawn st.recov.held.length,
        streams := s.mrg.streams.filter fun x => !(x.key == k) }).send
      ((st.recov.held.map fun h => .release h.ref) ++ [.countDelete .merge k])

/-- An ADDED reconciliation (R199): parameters, a FRESH record, counters at zero. -/
def State.mergeAdded (s : State) (k : Key) (p : InParams) : State :=
  (s.withMrg
    { s.mrg with
      streams := (s.mrg.streams.filter fun x => !(x.key == k)) ++
        [{ key := k, params := p, recov := .fresh s.mrg.bornNo, counts := .zero }],
      bornNo := s.mrg.bornNo + 1 }).send [.countCreate .merge k]

/-- A RECOVERY-CHANGED reconciliation (R200): held frames released under the old parameters, the record FRESH under the new. -/
def State.mergeRecoveryChanged (s : State) (k : Key) (p : InParams) : State :=
  match s.mrg.find k with
  | none => s
  | some st =>
    (s.withMrg (s.mrg.upd k fun x => { x with params := p, recov := x.recov.reset })).send
      (st.recov.held.map (releaseMsg st))

/-- An OTHER-CHANGED reconciliation (R201): parameters replaced, recovery state kept. A silence time of 0 stops the silence
timer, and a deferred expiry of it is gone (R51, R68). -/
def State.mergeOtherChanged (s : State) (k : Key) (p : InParams) : State :=
  s.withMrg
    { s.mrg.upd k fun x =>
        { x with params := p, recov := x.recov.otherChanged p.rogue p.silence s.clock.millis } with
      deferred := if p.silence = 0 then s.mrg.deferred.filter fun e => !(e == .silence (.key k)) else s.mrg.deferred }

/-- The reconciliation of a key under its category (R197 to R201). -/
def State.mergeReconcile (s : State) (e : ChangeEntry) : State :=
  match e.cat with
  | .removed => s.mergeRemoved e.key
  | .added r => match inParamsOf r with
    | some p => s.mergeAdded e.key p
    | none => s
  | .recoveryChanged r => match inParamsOf r with
    | some p => s.mergeRecoveryChanged e.key p
    | none => s
  | .otherChanged r => match inParamsOf r with
    | some p => s.mergeOtherChanged e.key p
    | none => s

/-- A pending key reconciled; the last one is reported to the agent (R52, R197). -/
def State.mergeStep (s : State) (e : ChangeEntry) : State :=
  let s := s.mergeReconcile e
  let rest := s.mrg.pending.filter fun x => !(x.key == e.key)
  (s.withMrg { s.mrg with pending := rest }).send (if rest.isEmpty then [.reconcileDone .merge] else [])

/-! ## When an entry is taken -/

/-- Picks a reconciliation request to a block. -/
def selReconcile (b : Block) : Msg → Option (Gen × List ChangeEntry × Lane)
  | .reconcile b' g cs l => if b' = b then some (g, cs, l) else none
  | _ => none

/-- Whether a deferred event still waits to be taken (R51). -/
def State.mergeWaits (s : State) : MergeDeferred → Bool
  | .silence .management => s.mrg.mgmt.silenceDue s.clock.millis
  | .silence (.key k) => match s.mrg.find k with
    | some st => st.recov.silenceDue s.clock.millis
    | none => false
  | .hold k => match s.mrg.find k with
    | some st => st.recov.holdDue s.clock.tens
    | none => false
  | .request => (takeFirst (selReconcile .merge) s.net).isSome
  | .reconcileStep => !s.mrg.pending.isEmpty

/-- Whether the merge engine takes a head entry of generation `g`: nothing in hand, no deferred event waiting, and not the
generation one above its parameter generation (R50). -/
def State.mergeTakes (s : State) (g : Gen) : Bool :=
  s.mrg.hand.isNone && !(s.mrg.deferred.any s.mergeWaits) && g != s.mrg.gen + 1

/-- The state with the head entry taken: `rest` stays in the queue and a new handling begins (R50, R51). -/
def State.mergeBegin (s : State) (rest : List MergeEntry) : State :=
  s.withMrg { s.mrg with queue := rest, deferred := [], handNo := s.mrg.handNo + 1 }

/-- The STREAM-RESET raise of a judgement (R59). -/
def alarmMsgs (alarm : Bool) (k : Key) : List Msg := if alarm then [.notice .streamReset (keyDetail k)] else []

/-- A directory arrival judged against its stream (R53 to R61, R79). -/
def State.judgeDirectory (s : State) (st : Stream) (a : DirArrival) : State :=
  let j := judge st.params.window st.params.rogue st.recov st.counts a.seq a.restart
  let s := (s.withMrg (s.mrg.upd a.key fun x => { x with recov := j.recov, counts := j.counts })).send
    (j.released.map (releaseMsg st) ++ alarmMsgs j.alarm a.key)
  match j.judged with
  | .candidate v =>
    (s.withMrg { s.mrg with hand := some (.directory a v none) }).send
      [.grant { who := .merge, hand := s.mrg.handNo, stream := some a.key, len := a.len, policer := st.params.policer,
                pool := st.params.pool }]
  | _ => s

/-- A directory arrival taken: its key reconciled first when pending, then WITHDRAWN or judged (R52 to R54). -/
def State.takeDirectory (s : State) (a : DirArrival) : State :=
  let s := match s.mrg.pending.find? fun e => e.key == a.key with
    | some e => s.mergeStep e
    | none => s
  match s.mrg.find a.key with
  | none => s.withMrg { s.mrg with withdrawn := bump s.mrg.withdrawn }
  | some st => s.judgeDirectory st a

/-- TAKE_DIRECTORY_ARRIVAL (R50, R53). -/
def execTakeDirectoryArrival (s : State) : Result :=
  match s.mrg.queue with
  | .directory a :: rest => if s.mergeTakes a.gen then .next ((s.mergeBegin rest).takeDirectory a) else .next s
  | _ => .next s

/-- An unknown arrival taken: a grant from the unknown pool, no policer, no recovery (R70). -/
def State.takeUnknown (s : State) (a : UnkArrival) : State :=
  (s.withMrg { s.mrg with hand := some (.unknown a none) }).send
    [.grant { who := .merge, hand := s.mrg.handNo, stream := none, len := a.len, policer := none, pool := a.pool }]

/-- TAKE_UNKNOWN_ARRIVAL (R50, R70). -/
def execTakeUnknownArrival (s : State) : Result :=
  match s.mrg.queue with
  | .unknown a :: rest => if s.mergeTakes a.gen then .next ((s.mergeBegin rest).takeUnknown a) else .next s
  | _ => .next s

/-- A management arrival judged against the fixed management record (R71, R72). -/
def State.takeManagement (s : State) (a : MgmtArrival) : State :=
  let j := judge Config.managementWindow Config.managementRogue s.mrg.mgmt s.mrg.mgmtCounts a.seq a.restart
  let s := (s.withMrg { s.mrg with mgmt := j.recov, mgmtCounts := j.counts }).send
    (alarmMsgs j.alarm (ownRequestKey s.node))
  match j.judged with
  | .candidate v =>
    (s.withMrg { s.mrg with hand := some (.management a v) }).send
      [.placement s.mrg.handNo { side := lanePort a.lane, len := payloadLen a.buf, buf := a.buf }]
  | _ => s

/-- TAKE_MANAGEMENT_ARRIVAL (R50, R71). -/
def execTakeManagementArrival (s : State) : Result :=
  match s.mrg.queue with
  | .management a :: rest => if s.mergeTakes a.gen then .next ((s.mergeBegin rest).takeManagement a) else .next s
  | _ => .next s

end Sys2Proof.Machine
end

