-- ==== Sys2Proof/Machine/MergeAnswers.lean ====
section
/-! DEFINITION. MergeAnswers.lean: the answers that the merge engine takes: grants (R61), placements (R62, R72), release
enqueues (R85), and the recording of an acceptance (R64 to R66, R80 to R82). -/

namespace Sys2Proof.Machine

/-- The handling of the entry in hand ends (R51): of the events deferred past it, those still due stay deferred; an expiry
whose timer the handling stopped, or moved to a time still to come, is gone (R51, R88). -/
def State.mergeEnd (s : State) : State :=
  s.withMrg { s.mrg with hand := none, deferred := s.mrg.deferred.filter s.mergeWaits }

/-- An acceptance recorded on a directory stream; `entry` is the hold entry of a frame to be held (R64 to R66, R82). -/
def State.recordAcceptance (s : State) (st : Stream) (q : Seq) (entry : Option Held) : State :=
  let r := accept st.params.window st.params.silence st.params.mode.isInOrder s.clock.millis st.recov q entry
  (s.withMrg (s.mrg.upd st.key fun x =>
    { x with recov := r.recov,
             counts := { x.counts with passed := bump x.counts.passed, lost := count x.counts.lost r.lost } })).send
    (r.released.map (releaseMsg st))

/-- A hold placement (R80), or NO-HOLD when the hold table is full (R81). -/
def State.placeHold (s : State) (st : Stream) (a : DirArrival) (ref : FrameRef) : State :=
  if s.mrg.holdInUse < Config.holdEntries then
    s.recordAcceptance st a.seq
      (some { seq := a.seq, ref := ref, deadline := s.clock.tens + st.params.mode.holdField, cls := a.cls })
  else
    (s.withMrg (s.mrg.upd st.key fun x => { x with counts := { x.counts with noHold := bump x.counts.noHold } })).send
      [.release ref, .notice .holdExhausted (keyDetail st.key)]

/-- A granted directory candidate: the frame written and placed (R61, R62, R79). -/
def State.grantedDirectory (s : State) (a : DirArrival) (v : Verdict) (ref : FrameRef) : State :=
  let s := s.writeFrame ref a.buf
  match s.mrg.find a.key with
  | none => (s.send [.release ref]).mergeEnd
  | some st =>
    match v with
    | .hold => (s.placeHold st a ref).mergeEnd
    | _ =>
      (s.withMrg { s.mrg with hand := some (.directory a v (some ref)) }).send
        [.enqueue { port := .t, cls := st.params.cls.queue a.cls, ref := ref, mark := none, strip := st.params.strip,
                    tag := .delivery s.mrg.handNo }]

/-- A granted unknown arrival: written and delivered under its header class with its bytes unchanged (R70). -/
def State.grantedUnknown (s : State) (a : UnkArrival) (ref : FrameRef) : State :=
  let s := s.writeFrame ref a.buf
  (s.withMrg { s.mrg with hand := some (.unknown a (some ref)) }).send
    [.enqueue { port := .t, cls := a.cls, ref := ref, mark := none, strip := false, tag := .delivery s.mrg.handNo }]

/-- Picks a grant answer to a block. -/
def selGrantAns (b : Block) : Msg → Option (Nat × GrantResult)
  | .grantAns b' n r => if b' = b then some (n, r) else none
  | _ => none

/-- The release of what a late grant answer granted (R75, R132). -/
def lateGrant : GrantResult → List Msg
  | .granted ref => [.release ref]
  | _ => []

/-- A grant answer at the merge engine (R61, R63); one of an abandoned handling only returns its blocks (R75). -/
def State.mergeGrantAnswer (s : State) (n : Nat) (r : GrantResult) : State :=
  match s.mrg.hand with
  | some (.directory a v none) =>
    if n = s.mrg.handNo then
      match r with
      | .granted ref => s.grantedDirectory a v ref
      | _ => s.mergeEnd
    else s.send (lateGrant r)
  | some (.unknown a none) =>
    if n = s.mrg.handNo then
      match r with
      | .granted ref => s.grantedUnknown a ref
      | _ => s.mergeEnd
    else s.send (lateGrant r)
  | _ => s.send (lateGrant r)

/-- MERGE_GRANT_ANSWER (R61). -/
def execMergeGrantAnswer (s : State) : Result :=
  s.onMsg (selGrantAns .merge) fun q s => s.mergeGrantAnswer q.1 q.2

/-- Picks the answer to a delivery enqueue. -/
def selDeliveryAns : Msg → Option (Nat × FrameRef × EnqResult)
  | .enqueueAns (.delivery n) ref r => some (n, ref, r)
  | _ => none

/-- One queue-full of a stream (R63, R85). -/
def Stream.queueFull (st : Stream) : Stream := { st with counts := { st.counts with queueFull := bump st.counts.queueFull } }

/-- The answer to the delivery of the entry in hand (R62 to R64); the merge engine's reference is released in every case,
and an answer of an abandoned handling does no more (R75). -/
def State.mergePlacementAnswer (s : State) (n : Nat) (ref : FrameRef) (r : EnqResult) : State :=
  let s := s.send [.release ref]
  match s.mrg.hand with
  | some (.directory a _ (some _)) =>
    if n = s.mrg.handNo then
      match s.mrg.find a.key, r with
      | some st, .placed => (s.recordAcceptance st a.seq none).mergeEnd
      | _, _ => (s.withMrg (s.mrg.upd a.key Stream.queueFull)).mergeEnd
    else s
  | some (.unknown _ (some _)) => if n = s.mrg.handNo then s.mergeEnd else s
  | _ => s

/-- MERGE_PLACEMENT_ANSWER (R62). -/
def execMergePlacementAnswer (s : State) : Result :=
  s.onMsg selDeliveryAns fun q s => s.mergePlacementAnswer q.1 q.2.1 q.2.2

/-- Picks the answer to a management placement. -/
def selPlacementAns : Msg → Option (Nat × Bool)
  | .placementAns n ok => some (n, ok)
  | _ => none

/-- An acceptance recorded on the management record (R64 to R66, R71, R72). -/
def State.recordManagement (s : State) (q : Seq) : State :=
  let r := accept Config.managementWindow Config.managementSilence false s.clock.millis s.mrg.mgmt q none
  s.withMrg
    { s.mrg with
      mgmt := r.recov,
      mgmtCounts :=
        { s.mrg.mgmtCounts with
          passed := bump s.mrg.mgmtCounts.passed, lost := count s.mrg.mgmtCounts.lost r.lost } }

/-- The agent's answer to a management placement (R72); one of an abandoned handling is not recorded (R75). -/
def State.managementAnswer (s : State) (n : Nat) (ok : Bool) : State :=
  match s.mrg.hand with
  | some (.management a _) =>
    if n = s.mrg.handNo then
      if ok then (s.recordManagement a.seq).mergeEnd
      else (s.withMrg
        { s.mrg with mgmtCounts := { s.mrg.mgmtCounts with queueFull := bump s.mrg.mgmtCounts.queueFull } }).mergeEnd
    else s
  | _ => s

/-- MANAGEMENT_PLACEMENT_ANSWER (R72). -/
def execManagementPlacementAnswer (s : State) : Result :=
  s.onMsg selPlacementAns fun q s => s.managementAnswer q.1 q.2

/-- Picks the answer to the release enqueue of a frame record: key, record incarnation, reference, result. -/
def selReleaseAns (frame : Nat) : Msg → Option (Key × Nat × FrameRef × EnqResult)
  | .enqueueAns (.release k born) ref r => if ref.id = frame then some (k, born, ref, r) else none
  | _ => none

/-- The answer to a released frame's enqueue (R85): the reference is released; a refusal counts queue-full unless the
stream's counters were deleted meanwhile. -/
def State.releaseAnswer (s : State) (k : Key) (born : Nat) (ref : FrameRef) (r : EnqResult) : State :=
  let s := s.send [.release ref]
  match r with
  | .placed => s
  | _ => s.withMrg (s.mrg.upd k fun st => if st.recov.born = born then st.queueFull else st)

/-- RELEASE_ENQUEUE_ANSWER (R85). -/
def execReleaseEnqueueAnswer (frame : Nat) (s : State) : Result :=
  s.onMsg (selReleaseAns frame) fun q s => s.releaseAnswer q.1 q.2.1 q.2.2.1 q.2.2.2

end Sys2Proof.Machine
end

