-- ==== Sys2Proof/Machine/Replicate.lean ====
section
/-! DEFINITION. Replicate.lean: the commands of the replicator (R118 to R132). -/

namespace Sys2Proof.Machine

/-- The state with the replicator replaced. -/
def State.withRep (s : State) (r : Replicator) : State := { s with rep := r }

/-- The stream of an outbound key (R118). -/
def Replicator.find (r : Replicator) (k : Key) : Option OutStream := r.streams.find? fun st => st.key == k

/-- The replicator with `f` applied to the stream of a key. -/
def Replicator.upd (r : Replicator) (k : Key) (f : OutStream → OutStream) : Replicator :=
  { r with streams := r.streams.map fun st => if st.key = k then f st else st }

/-! ## Reconciliation (R129) -/

/-- The outbound parameters of a record (R118). -/
def outParamsOf (d : DirRecord) : Option OutParams :=
  match d.fields with
  | .outbound f => some { f with policer := d.policer, pool := d.pool, cls := d.cls }
  | .inbound _ => none

/-- Whether a change-list entry concerns the replicator (R129). -/
def Replicator.concerns (r : Replicator) (e : ChangeEntry) : Bool :=
  match e.cat with
  | .removed => (r.find e.key).isSome
  | .added d => d.direction == .outbound
  | .otherChanged d => d.direction == .outbound
  | .recoveryChanged _ => false

/-- A key's outbound state created (R129, ADDED). -/
def State.repAdded (s : State) (k : Key) (p : OutParams) : State :=
  (s.withRep
    { s.rep with
      streams := (s.rep.streams.filter fun x => !(x.key == k)) ++
        [{ key := k, params := p, counter := .start, counts := .zero }] }).send [.countCreate .replicator k]

/-- A key's parameters replaced, its send counter and counters kept (R129, OTHER-CHANGED). -/
def State.repOtherChanged (s : State) (k : Key) (p : OutParams) : State :=
  s.withRep (s.rep.upd k fun x => { x with params := p })

/-- A key's outbound state deleted (R129, REMOVED). -/
def State.repRemoved (s : State) (k : Key) : State :=
  (s.withRep { s.rep with streams := s.rep.streams.filter fun x => !(x.key == k) }).send [.countDelete .replicator k]

/-- The reconciliation of a key under its category (R129). -/
def State.repReconcile (s : State) (e : ChangeEntry) : State :=
  match e.cat with
  | .removed => s.repRemoved e.key
  | .added d => match outParamsOf d with
    | some p => s.repAdded e.key p
    | none => s
  | .otherChanged d => match outParamsOf d with
    | some p => s.repOtherChanged e.key p
    | none => s
  | .recoveryChanged _ => s

/-- A pending key reconciled; the last one is reported to the agent (R129). -/
def State.repStep (s : State) (e : ChangeEntry) : State :=
  let s := s.repReconcile e
  let rest := s.rep.pending.filter fun x => !(x.key == e.key)
  (s.withRep { s.rep with pending := rest }).send (if rest.isEmpty then [.reconcileDone .replicator] else [])

/-- A reconciliation request taken (R129). -/
def State.repRequest (s : State) (g : Gen) (cs : List ChangeEntry) (l : Lane) : State :=
  let pending := cs.filter s.rep.concerns
  (s.withRep { s.rep with gen := g, preferred := l, pending := pending, requestWaiting := false }).send
    (if pending.isEmpty then [.reconcileDone .replicator] else [])

/-- REPLICATOR_RECONCILIATION_REQUEST (R129); while work is in hand it only waits (R120, R121). -/
def execReplicatorReconciliationRequest (s : State) : Result :=
  match takeFirst (selReconcile .replicator) s.net with
  | none => .next s
  | some (q, rest) =>
    if s.rep.hand.isSome then .next (s.withRep { s.rep with requestWaiting := true })
    else .next (State.repRequest { s with net := rest } q.1 q.2.1 q.2.2)

/-- REPLICATOR_RECONCILE_KEY: the lowest pending key, with no work in hand and no request waiting (R120, R129). -/
def execReplicatorReconcileKey (s : State) : Result :=
  match s.rep.pending with
  | [] => .next s
  | e :: _ => if s.rep.hand.isSome || s.rep.requestWaiting then .next s else .next (s.repStep e)

/-- Picks the earliest link-change event of a lane at the replicator. -/
def selLinkReplicator (l : Lane) : Msg → Option Link
  | .linkReplicator l' st => if l' = l then some st else none
  | _ => none

/-- REPLICATOR_LINK_CHANGE: taken when it comes, work in hand or not (R118, R121). -/
def execReplicatorLinkChange (l : Lane) (s : State) : Result :=
  s.onMsg (selLinkReplicator l) fun st s => s.withRep { s.rep with links := s.rep.links.set l st }

/-! ## Taking work (R120 to R122, R126, R127) -/

/-- Whether the replicator takes a head entry of generation `g`: no work in hand, no reconciliation request and no handoff
waiting, and not the generation one above its parameter generation (R120). Pending keys are the caller's. -/
def Replicator.takesEntry (r : Replicator) (g : Gen) : Bool :=
  r.hand.isNone && !r.requestWaiting && r.handoff.isNone && g != r.gen + 1

/-- Whether the pending keys let a departure of key `k` be taken: none is pending, or `k` itself is, and is reconciled
first (R120, R122, log 11). -/
def Replicator.pendingAllows (r : Replicator) (k : Key) : Bool :=
  r.pending.isEmpty || r.pending.any fun e => e.key == k

/-- The state with the head entry taken and a new handling begun (R121). -/
def State.repBegin (s : State) (rest : List RepEntry) : State :=
  s.withRep { s.rep with queue := rest, handNo := s.rep.handNo + 1 }

/-- Work in hand that awaits its grant (R121). -/
def State.repHold (s : State) (j : RepJob) : State :=
  s.withRep { s.rep with hand := some { job := j, ref := none, waiting := [], placed := 0 } }

/-- A directory departure taken: its key reconciled first when pending, then WITHDRAWN or a grant asked at the stored
length plus 4 (R122). -/
def State.takeDeparture (s : State) (d : DirDeparture) : State :=
  let s := match s.rep.pending.find? fun e => e.key == d.key with
    | some e => s.repStep e
    | none => s
  match s.rep.find d.key with
  | none => s.withRep { s.rep with withdrawn := bump s.rep.withdrawn }
  | some st =>
    (s.repHold (.directory d st.params)).send
      [.grant { who := .replicator, hand := s.rep.handNo, stream := some d.key, len := d.len + 4,
                policer := st.params.policer, pool := st.params.pool }]

/-- TAKE_DIRECTORY_DEPARTURE (R120, R122). -/
def execTakeDirectoryDeparture (s : State) : Result :=
  match s.rep.queue with
  | .directory d :: rest =>
    if s.rep.takesEntry d.gen && s.rep.pendingAllows d.key then .next ((s.repBegin rest).takeDeparture d) else .next s
  | _ => .next s

/-- The lane of an unknown departure: the preferred one when UP, else the other when UP, else none (R126). -/
def Replicator.chooseLane (r : Replicator) : Option Lane :=
  if r.links.get r.preferred = .up then some r.preferred
  else if r.links.get (otherLane r.preferred) = .up then some (otherLane r.preferred)
  else none

/-- An unknown departure taken (R126). -/
def State.takeUnknownDeparture (s : State) (d : UnkDeparture) : State :=
  match s.rep.chooseLane with
  | none => s
  | some l =>
    (s.repHold (.unknown d l)).send
      [.grant { who := .replicator, hand := s.rep.handNo, stream := none, len := d.len, policer := none, pool := d.pool }]

/-- TAKE_UNKNOWN_DEPARTURE (R120, R126). -/
def execTakeUnknownDeparture (s : State) : Result :=
  match s.rep.queue with
  | .unknown d :: rest =>
    if s.rep.takesEntry d.gen && s.rep.pending.isEmpty then .next ((s.repBegin rest).takeUnknownDeparture d) else .next s
  | _ => .next s

/-- A handoff taken: a reserve grant asked for its length with a trail and a check (R127). -/
def State.takeHandoff (s : State) (h : Handoff) : State :=
  let s := s.withRep { s.rep with handoff := none, handNo := s.rep.handNo + 1 }
  (s.repHold (.handoff h)).send [.reserveGrant .replicator s.rep.handNo (h.bytes.length + 8)]

/-- TAKE_HANDOFF: with no work in hand, no reconciliation request waiting and no key pending (R120, R127). -/
def execTakeHandoff (s : State) : Result :=
  match s.rep.handoff with
  | some h =>
    if s.rep.hand.isNone && !s.rep.requestWaiting && s.rep.pending.isEmpty then .next (s.takeHandoff h) else .next s
  | none => .next s

/-! ## Grants, stamps and copies (R119, R123 to R128) -/

/-- A send counter after a stamp (R119). -/
def SendCounter.stamped (c : SendCounter) : SendCounter := { nxt := c.nxt + 1, restart := false }

/-- A skipped or refused copy on a lane, counted (R125, R128). -/
def OutCounts.refuse (c : OutCounts) (l : Lane) : OutCounts :=
  { c with refused := c.refused.set l (bump (c.refused.get l)) }

/-- `f` applied to the counters of the stream a job belongs to; an unknown stream has none (R126, R130). -/
def Replicator.countFor (r : Replicator) (j : RepJob) (f : OutCounts → OutCounts) : Replicator :=
  match j with
  | .directory d _ => r.upd d.key fun st => { st with counts := f st.counts }
  | .unknown _ _ => r
  | .handoff _ => { r with replyCounts := f r.replyCounts }

/-- The lanes of a mask whose link-state copy is UP or DOWN (R125). L0 stands before L1, and so its enqueue request is sent
first and taken first (R142); R125 asks for no order of the two, and this one is the model's choice (log 31). -/
def Replicator.lanesWith (r : Replicator) (m : OutFields) (st : Link) : List Lane :=
  (if m.l0 && r.links.l0 == st then [.l0] else []) ++ (if m.l1 && r.links.l1 == st then [.l1] else [])

/-- The end of the work in hand with its frame reference (R121, R125, R128): the reference released, a handoff answered. -/
def State.repEnd (s : State) (j : RepJob) (ref : FrameRef) (placed : Nat) : State :=
  (s.withRep { s.rep with hand := none }).send
    (.release ref :: (match j with | .handoff _ => [.handoffAns (.sent ref placed)] | _ => []))

/-- The enqueue requests of the work in hand sent to `up`, in that list's order, L0's before L1's (the model's choice, log 31);
with none to send, the work ends (R125, R126, R128). -/
def State.repEnqueue (s : State) (j : RepJob) (ref : FrameRef) (c : Class) (marked : Bool) (up : List Lane) : State :=
  if up.isEmpty then s.repEnd j ref 0
  else
    (s.withRep { s.rep with hand := some { job := j, ref := some ref, waiting := up, placed := 0 } }).send
      (up.map fun l =>
        .enqueue { port := lanePort l, cls := c, ref := ref, mark := if marked then some l else none, strip := false,
                   tag := .lane s.rep.handNo l })

/-- A granted directory departure stamped, written and sent to its lanes (R124, R125). -/
def State.grantedDeparture (s : State) (d : DirDeparture) (p : OutParams) (ref : FrameRef) : State :=
  match s.rep.find d.key with
  | none => s.repEnd (.directory d p) ref 0
  | some st =>
    let s := s.writeFrame ref (stampFrame d.buf st.counter.nxt st.counter.restart)
    let down := s.rep.lanesWith p.toOutFields .down
    let s := s.withRep (s.rep.upd d.key fun x =>
      { x with counter := x.counter.stamped,
               counts := down.foldl OutCounts.refuse { x.counts with sent := bump x.counts.sent } })
    s.repEnqueue (.directory d p) ref (p.cls.queue d.cls) true (s.rep.lanesWith p.toOutFields .up)

/-- A granted unknown departure written as received and sent to its lane (R126). -/
def State.grantedUnknownDeparture (s : State) (d : UnkDeparture) (l : Lane) (ref : FrameRef) : State :=
  (s.writeFrame ref d.buf).repEnqueue (.unknown d l) ref d.cls false [l]

/-- A grant answer at the replicator (R123, R124, R126); one of abandoned work only returns its blocks (R132). -/
def State.repGrantAnswer (s : State) (n : Nat) (r : GrantResult) : State :=
  match s.rep.hand with
  | some { job := j, ref := none, waiting := _, placed := _ } =>
    if n = s.rep.handNo then
      match r, j with
      | .granted ref, .directory d p => s.grantedDeparture d p ref
      | .granted ref, .unknown d l => s.grantedUnknownDeparture d l ref
      | .granted ref, .handoff _ => s.send [.release ref]
      | _, _ => s.withRep { s.rep with hand := none }
    else s.send (lateGrant r)
  | _ => s.send (lateGrant r)

/-- REPLICATOR_GRANT_ANSWER (R124). -/
def execReplicatorGrantAnswer (s : State) : Result :=
  s.onMsg (selGrantAns .replicator) fun q s => s.repGrantAnswer q.1 q.2

/-- Picks a reserve grant answer to a block. -/
def selReserveAns (b : Block) : Msg → Option (Nat × Option FrameRef)
  | .reserveAns b' n r => if b' = b then some (n, r) else none
  | _ => none

/-- The mask of the reply stream (R128). -/
def replyMask : OutFields := { l0 := true, l1 := true }

/-- A granted handoff stamped on the reply-stream counter and sent to each UP lane (R128). -/
def State.grantedHandoff (s : State) (h : Handoff) (ref : FrameRef) : State :=
  let s := s.writeFrame ref (stampFrame h.bytes s.rep.reply.nxt s.rep.reply.restart)
  let down := s.rep.lanesWith replyMask .down
  let s := s.withRep
    { s.rep with
      reply := s.rep.reply.stamped,
      replyCounts := down.foldl OutCounts.refuse { s.rep.replyCounts with sent := bump s.rep.replyCounts.sent } }
  s.repEnqueue (.handoff h) ref (frameClass h.bytes) true (s.rep.lanesWith replyMask .up)

/-- A reserve grant answer at the replicator (R127, R128); one of abandoned work only returns its blocks (R132). -/
def State.repReserveAnswer (s : State) (n : Nat) (r : Option FrameRef) : State :=
  match s.rep.hand with
  | some { job := .handoff h, ref := none, waiting := _, placed := _ } =>
    if n = s.rep.handNo then
      match r with
      | some ref => s.grantedHandoff h ref
      | none =>
        (s.withRep { s.rep with hand := none, unsent := bump s.rep.unsent }).send [.handoffAns .unsent]
    else s.send (r.toList.map .release)
  | _ => s.send (r.toList.map .release)

/-- REPLICATOR_RESERVE_GRANT_ANSWER (R128). -/
def execReplicatorReserveGrantAnswer (s : State) : Result :=
  s.onMsg (selReserveAns .replicator) fun q s => s.repReserveAnswer q.1 q.2

/-- Picks the answer to an enqueue on a lane: handling, reference, result. -/
def selLaneAns (l : Lane) : Msg → Option (Nat × FrameRef × EnqResult)
  | .enqueueAns (.lane n l') ref r => if l' = l then some (n, ref, r) else none
  | _ => none

/-- A late enqueue answer of the abandoned handling `n` (R132): after the last of the handling's answers the replicator
releases the reference it holds for it, once (R109, R110; an inference of the model, log 29), and before the last it only
notes that lane `l` is answered. An answer of a handling with no answer due releases the reference it names; no run
reaches it. -/
def State.repLateAnswer (s : State) (l : Lane) (n : Nat) (ref : FrameRef) : State :=
  match s.rep.late.find? fun x => x.hand == n with
  | none => s.send [.release ref]
  | some x =>
    let left := x.waiting.erase l
    if left.isEmpty then
      (s.withRep { s.rep with late := s.rep.late.filter fun y => !(y.hand == n) }).send [.release x.ref]
    else
      s.withRep { s.rep with late := s.rep.late.map fun y => if y.hand = n then { y with waiting := left } else y }

/-- The answer to a lane enqueue (R125, R126, R128): a refusal counted, and after the last the work ends. An answer of
abandoned work is a late one (R132). -/
def State.repEnqueueAnswer (s : State) (l : Lane) (n : Nat) (ref : FrameRef) (r : EnqResult) : State :=
  match s.rep.hand with
  | some { job := j, ref := some own, waiting := w, placed := p } =>
    if n = s.rep.handNo then
      let placed := if r = .placed then p + 1 else p
      let rep := if r = .placed then s.rep else s.rep.countFor j fun c => c.refuse l
      let rest := w.erase l
      let s := s.withRep { rep with hand := some { job := j, ref := some own, waiting := rest, placed := placed } }
      if rest.isEmpty then s.repEnd j own placed else s
    else s.repLateAnswer l n ref
  | _ => s.repLateAnswer l n ref

/-- REPLICATOR_ENQUEUE_ANSWER (R125). -/
def execReplicatorEnqueueAnswer (l : Lane) (s : State) : Result :=
  s.onMsg (selLaneAns l) fun q s => s.repEnqueueAnswer l q.1 q.2.1 q.2.2

/-! ## Reads and restarts (R130 to R132, R208) -/

/-- REPLICATOR_COUNTER_READ: an outbound key's three counters, the reply stream's under the own reply key, or the parts of
withdrawn and replies-unsent, cleared when asked (R171, R208). -/
def execReplicatorCounterRead (s : State) : Result :=
  s.onMsg (selCounterRead .replicator) fun q s =>
    match q.1 with
    | .key k _ =>
      if k = ownReplyKey s.node then
        (if q.2 then s.withRep { s.rep with replyCounts := .zero } else s).send
          [.readAns .replicator (.counters s.rep.replyCounts.toList)]
      else match s.rep.find k with
      | none => s.send [.readAns .replicator .noSet]
      | some st =>
        (if q.2 then s.withRep (s.rep.upd k fun x => { x with counts := .zero }) else s).send
          [.readAns .replicator (.counters st.counts.toList)]
    | _ =>
      (if q.2 then s.withRep { s.rep with withdrawn := 0, unsent := 0 } else s).send
        [.readAns .replicator (.counters [s.rep.withdrawn, s.rep.unsent])]

/-- The "abandoned" answer to a handoff in hand or waiting (R132). -/
def Replicator.abandoned (r : Replicator) : List Msg :=
  match r.hand, r.handoff with
  | some { job := .handoff _, ref := _, waiting := _, placed := _ }, _ => [.handoffAns .abandoned]
  | _, some _ => [.handoffAns .abandoned]
  | _, none => []

/-- The abandoned handlings whose enqueue answers are due after a restart: those from before it, and the work in hand when
its enqueue requests are out (R132, log 29). -/
def Replicator.lateAfter (r : Replicator) : List LateWork :=
  match r.hand with
  | some { job := _, ref := some own, waiting := w, placed := _ } =>
    r.late ++ [{ hand := r.handNo, ref := own, waiting := w }]
  | _ => r.late

/-- The replicator after a TRAFFIC restart (R132). -/
def Replicator.trafficRestart (r : Replicator) : Replicator :=
  { r with
    queue := [], hand := none, handoff := none, reply := .start, late := r.lateAfter,
    streams := r.streams.map fun st => { st with counter := .start } }

/-- REPLICATOR_TRAFFIC_RESTART (R132). -/
def execReplicatorTrafficRestart (s : State) : Result :=
  s.onMsg (selRestart .replicator .traffic) fun _ s =>
    (s.withRep s.rep.trafficRestart).send (s.rep.abandoned ++ [.restartDone .replicator])

/-- REPLICATOR_FULL_RESTART: work abandoned as at a TRAFFIC restart, then the power-on values with the link-state copies
kept (R131); handling numbers run on (log 7), and late enqueue answers stay due (R131, R132, log 29). -/
def execReplicatorFullRestart (s : State) : Result :=
  s.onMsg (selRestart .replicator .full) fun _ s =>
    (s.withRep { Replicator.powerOn s.rep.links with handNo := s.rep.handNo, late := s.rep.lateAfter }).send
      (s.rep.abandoned ++ [.restartDone .replicator])

end Sys2Proof.Machine
end

