-- ==== Sys2Proof/Machine/AgentOutput.lean ====
section
/-! DEFINITION. AgentOutput.lean: the agent's replies, its one output and the restart event (R165 to R168, R173 to R178,
R212, R213). -/

namespace Sys2Proof.Machine

/-- The state with the agent replaced. -/
def State.withAgt (s : State) (a : Agent) : State := { s with agt := a }

/-! ## Session timer (R162) -/

/-- The agent with its session timer started now (R162). -/
def Agent.startTimer (a : Agent) (now : Nat) : Agent :=
  { a with session := a.session.map fun x => { x with timer := some (now + 1000 * a.params.sessionTimeout) } }

/-- The agent with its session timer stopped (R162). -/
def Agent.stopTimer (a : Agent) : Agent := { a with session := a.session.map fun x => { x with timer := none } }

/-! ## The output (R166, R212) -/

/-- The header and payload of a frame the agent builds, trail flag clear (R3, R166). -/
def State.ownFrame (s : State) (kind : Nat) (payload : List Byte) : List Byte :=
  ownHeader kind s.agt.params.managementClass s.node payload.length ++ payload

/-- A frame put on the free output toward T or the lanes (R167, R168): a reserve grant asked for its length, or the frame
handed to the replicator (log 12). -/
def State.putOut (s : State) (reply restart toT : Bool) (frame : List Byte) : State :=
  if toT then
    let bytes := frame ++ crcBytes frame
    (s.withAgt { s.agt with output := some { reply := reply, restart := restart, path := .toT bytes none } }).send
      [.reserveGrant .agent 0 bytes.length]
  else
    (s.withAgt { s.agt with output := some { reply := reply, restart := restart, path := .toLanes } }).withRep
      { s.rep with handoff := some { reply := reply, bytes := frame } }

/-- The free output's choice: a waiting reply before a handed-out notice, whose frame is built here (R212). -/
def State.outputChoice (s : State) : State :=
  match s.agt.output, s.agt.ready, s.agt.handed with
  | some _, _, _ => s
  | none, some r, _ =>
    (s.withAgt { s.agt with ready := none }).putOut true r.restart (r.side == .t) (s.ownFrame kindReply r.payload)
  | none, none, some h =>
    (s.withAgt { s.agt with handed := none }).putOut false false (h.dest == .tributary)
      (s.ownFrame kindNotice (noticeBytes h.entry s.cls.gen))
  | none, none, none => s

/-! ## Replies (R165, R166) -/

/-- A reply built, cached and made ready toward `side`; the generation is the classifier's at this moment (R28, R165, R166,
log 15). -/
def State.reply (s : State) (side : Port) (token : Word32) (number : BitVec 16) (kind : Nat) (st : Status) (detail : Nat)
    (results : List Byte) (restart : Bool) : State :=
  let payload := replyBytes token number kind st s.cls.gen detail results
  (s.withAgt
    { s.agt with
      cache := some { token := token, number := number, payload := payload },
      ready := some { side := side, payload := payload, restart := restart } }).outputChoice

/-- The stage of the request in hand replaced. -/
def Agent.setStage (a : Agent) (g : HandStage) : Agent := { a with hand := a.hand.map fun h => { h with stage := g } }

/-- The request in hand answered (R15, R165, R166). -/
def State.answer (s : State) (h : AgentHand) (st : Status) (detail : Nat) (results : List Byte) : State :=
  (s.withAgt (s.agt.setStage .replying)).reply h.side (reqToken h.payload) (reqNumber h.payload) (reqKindCode h.payload) st
    detail results false

/-- The in-progress CHECK or COMMIT answered at its completion, and no longer in progress; the agent is in SESSION again
with a full session timeout (R190, R192, R195). -/
def State.answerProgress (s : State) (q : InProgress) (st : Status) (detail : Nat) : State :=
  (s.withAgt ({ s.agt with progress := none, mode := .session }.startTimer s.clock.millis)).reply q.side q.token q.number
    (progressCode q.kind) st detail [] false

/-! ## The restart event (R175, R177, R178) -/

/-- The agent's own part of a TRAFFIC restart (R178). -/
def Agent.trafficPart (a : Agent) : Agent := { a with queue := [] }

/-- The agent's own part of a FULL restart (R177, R214): the power-on values, but for RESTARTING with its in-progress
request and kind, and for the frame in flight on the output. -/
def Agent.fullPart (a : Agent) (now : Nat) : Agent :=
  { Agent.powerOn now with
    mode := a.mode, progress := a.progress, restart := a.restart, output := a.output, deferred := a.deferred }

/-- The blocks whose restart requests go first, and those that follow when both have answered (R175). -/
def firstGroup : List Block := [.classifier, .egress]
def secondGroup : RestartKind → List Block
  | .traffic => [.merge, .replicator, .admission]
  | .full => [.merge, .replicator, .admission, .receiver .l0, .receiver .l1, .receiver .t]

/-- The restart event: the agent's own part, then the first restart requests (R175). It needs a restart whose reply has
not yet been released. -/
def State.restartEvent (s : State) : State :=
  match s.agt.restart with
  | some { kind := k, phase := .replying } =>
    let a := match k with
      | .traffic => s.agt.trafficPart
      | .full => s.agt.fullPart s.clock.millis
    (s.withAgt { a with restart := some { kind := k, phase := .first firstGroup } }).send
      (firstGroup.map fun b => .restart b k)
  | _ => s

/-! ## The output answered (R157, R167, R168, R175, R213) -/

/-- The output answered for the frame `o`: the output is free, and a reply's handling has ended (R157, R166). -/
def State.freeOutput (s : State) (o : OutFrame) : State :=
  s.withAgt { s.agt with output := none, hand := if o.reply then none else s.agt.hand }

/-- The frame of the output `o` released, when `o` is the RESTART's own reply and no copy of it is left: the releases of it
that are still on their way, the egress unit's among them, are taken before the restart event (R153, R175, log 28). -/
def State.frameReleased (s : State) (o : OutFrame) (ref : FrameRef) : State :=
  if o.restart then s.takeReleases ref else s

/-- The restart event where `o` is the RESTART's own reply, then the output's choice (R175, R212, log 28). -/
def State.afterOutput (s : State) (o : OutFrame) (fire : Bool) : State :=
  (if o.restart && fire then s.restartEvent else s).outputChoice

/-- One reply or notice not sent, counted by the agent (R167, R213). -/
def State.countUnsent (s : State) : State := s.withAgt { s.agt with unsent := bump s.agt.unsent }

/-- The reserve grant answer for the frame on the output (R167); without such a frame it only returns its blocks. -/
def State.agentReserveAnswer (s : State) (r : Option FrameRef) : State :=
  match s.agt.output with
  | some { reply := rp, restart := rs, path := .toT bytes none } =>
    let o : OutFrame := { reply := rp, restart := rs, path := .toT bytes none }
    match r with
    | none => (s.countUnsent.freeOutput o).afterOutput o true
    | some ref =>
      ((s.writeFrame ref bytes).withAgt { s.agt with output := some { o with path := .toT bytes (some ref) } }).send
        [.enqueue { port := .t, cls := frameClass bytes, ref := ref, mark := none, strip := false, tag := .output }]
  | _ => s.send (r.toList.map .release)

/-- AGENT_RESERVE_GRANT_ANSWER (R167). -/
def execAgentReserveGrantAnswer (s : State) : Result :=
  s.onMsg (selReserveAns .agent) fun q s => s.agentReserveAnswer q.2

/-- Picks the answer to the output's enqueue. -/
def selOutputAns : Msg → Option (FrameRef × EnqResult)
  | .enqueueAns .output ref r => some (ref, r)
  | _ => none

/-- The answer to the output's enqueue (R167, R175): placed, it is sent and the agent's reference released, the RESTART's
own reply watched first; refused, it is unsent and the reference released, and the blocks of the RESTART's own reply have
returned before the restart event (log 28). -/
def State.agentEnqueueAnswer (s : State) (ref : FrameRef) (r : EnqResult) : State :=
  match s.agt.output with
  | some { reply := rp, restart := rs, path := .toT bytes (some own) } =>
    let o : OutFrame := { reply := rp, restart := rs, path := .toT bytes (some own) }
    match r with
    | .placed => ((s.send ((if rs then [.watch ref] else []) ++ [.release ref])).freeOutput o).afterOutput o false
    | _ => ((((s.send [.release ref]).frameReleased o ref).countUnsent).freeOutput o).afterOutput o true
  | _ => s.send [.release ref]

/-- AGENT_ENQUEUE_ANSWER (R167). -/
def execAgentEnqueueAnswer (s : State) : Result :=
  s.onMsg selOutputAns fun q s => s.agentEnqueueAnswer q.1 q.2

/-- Picks the replicator's answer to a handoff. -/
def selHandoffAns : Msg → Option HandoffResult
  | .handoffAns r => some r
  | _ => none

/-- The replicator's answer to the handoff on the output (R168, R175): the RESTART's own reply is watched when a copy was
placed; when none was, its frame has been released and the restart event comes at once (R128, R153, log 28). -/
def State.handoffAnswer (s : State) (r : HandoffResult) : State :=
  match s.agt.output with
  | some { reply := rp, restart := rs, path := .toLanes } =>
    let o : OutFrame := { reply := rp, restart := rs, path := .toLanes }
    match r with
    | .sent ref (_ + 1) => ((s.send (if rs then [.watch ref] else [])).freeOutput o).afterOutput o false
    | .sent ref 0 => ((s.frameReleased o ref).freeOutput o).afterOutput o true
    | .unsent => (s.freeOutput o).afterOutput o true
    | .abandoned => (s.freeOutput o).afterOutput o false
  | _ => s

/-- HANDOFF_ANSWER (R168). -/
def execHandoffAnswer (s : State) : Result :=
  s.onMsg selHandoffAns fun r s => s.handoffAnswer r

end Sys2Proof.Machine
end

