-- ==== Sys2Proof/Machine/AgentRequests.lean ====
section
/-! DEFINITION. AgentRequests.lean: the agent request queue (R155), the taking of a request (R157 to R160) and the
requests, each served under its own rule (R161 to R173, R180 to R188, R192). -/

namespace Sys2Proof.Machine

/-! ## The agent request queue (R155) -/

/-- Picks the merge engine's request placement. -/
def selPlacement : Msg → Option (Nat × RequestEntry)
  | .placement n e => some (n, e)
  | _ => none

/-- The agent's taking of the merge engine's placement, which it answers (R72, R155). -/
def State.requestPlacement (s : State) (n : Nat) (e : RequestEntry) : State :=
  (s.withAgt (s.agt.place e).1).send [.placementAns n (s.agt.place e).2]

/-- REQUEST_PLACEMENT (R155). -/
def execRequestPlacement (s : State) : Result :=
  s.onMsg selPlacement fun q s => s.requestPlacement q.1 q.2

/-! ## Access (R160) -/

/-- What R160 asks of a request. -/
inductive Access | anyone | opening | holder
  deriving DecidableEq, Repr

/-- The row of R160's table a request falls in. -/
def Req.access : Req → Access
  | .openSession => .opening
  | .closeSession => .holder
  | .putDirectory _ => .holder
  | .putPolicers _ => .holder
  | .putPools _ => .holder
  | .putQueues _ => .holder
  | .putDevice _ => .holder
  | .dropKeys _ => .holder
  | .clearBank => .holder
  | .abandon => .holder
  | .checkShadow => .holder
  | .commit _ => .holder
  | .readDirectory _ _ => .anyone
  | .readPolicer _ _ => .anyone
  | .readPool _ _ => .anyone
  | .readQueue _ _ _ => .anyone
  | .readDevice _ _ => .anyone
  | .readNext _ _ _ => .anyone
  | .statsKey _ clear => if clear then .holder else .anyone
  | .statsPort _ clear => if clear then .holder else .anyone
  | .statsDevice clear => if clear then .holder else .anyone
  | .status => .anyone
  | .restart _ => .holder

/-- Whether a token is the holder's. -/
def Agent.holds (a : Agent) (token : Word32) : Bool :=
  match a.session with
  | some x => x.token == token
  | none => false

/-- The refusal of a well-formed request by the table of R160; none when it is served. -/
def Agent.refusal (a : Agent) (token : Word32) (c : Access) : Option Status :=
  match c, a.mode with
  | .anyone, _ => none
  | .opening, .noSession => none
  | .opening, .session => if a.holds token then none else some .busy
  | .holder, .noSession => some .noSession
  | .holder, .session => if a.holds token then none else some .notHolder
  | _, _ => some .busy

/-! ## Requests that other blocks carry out -/

/-- The request in hand waits for reads sent to other blocks (R157). -/
def State.askReads (s : State) (r : Req) (bs : List Block) (ms : List Msg) : State :=
  (s.withAgt (s.agt.setStage (.reading r bs []))).send ms

/-- Shadow discards sent to the three blocks, with what they are for (R163, R180, R187). -/
def State.discardShadow (s : State) (why : DiscardWhy) : State :=
  (s.withAgt { s.agt with discard := some { waiting := shadowBlocks, why := why } }).send
    (shadowBlocks.map .shadowDiscard)

/-- The session ended: holder and timer removed, NO-SESSION, the shadow ABSENT and discarded (R163). -/
def State.endSession (s : State) (why : DiscardWhy) : State :=
  State.discardShadow
    (s.withAgt { s.agt with session := none, mode := .noSession, shadow := .absent, expiryDeferred := false }) why

/-- The write of a staging request, for the block that owns its table (R182 to R185). -/
def writeOf : Req → List Msg
  | .putDirectory rs => [.recordWrite rs]
  | .putPolicers es => [.policerWrite es]
  | .putPools es => [.poolWrite es]
  | .putQueues es => [.queueWrite es]
  | .putDevice es => [.deviceWrite es]
  | .dropKeys ks => [.removal ks]
  | .clearBank => [.emptyBank]
  | _ => []

/-- A staging request: the record check, then the shadow's creation when it is ABSENT, or the write (R14, R180, R181). -/
def State.serveStaging (s : State) (h : AgentHand) (r : Req) : State :=
  if crc32 (recordArea h.payload) ≠ recordCheck h.payload then s.answer h .badCheck 0 []
  else match s.agt.shadow with
  | .absent =>
    (s.withAgt (s.agt.setStage (.creating r shadowBlocks))).send (shadowBlocks.map .shadowCreate)
  | _ => (s.withAgt (s.agt.setStage (.writing false))).send (writeOf r)

/-! ## CHECK and COMMIT (R188, R192, R193) -/

/-- The eight pools, the ports and the classes, in order. -/
def allPools : List (Fin 8) := List.finRange 8
def allPorts : List Port := [.l0, .l1, .t]
def allClasses : List Class := [.c0, .c1, .c2, .c3]

/-- The first reads of a check (R188). -/
def checkReads : List Msg :=
  .nextRead .check .shadow 0 8 :: .deviceRead .check .shadow 3 ::
    (allPools.map fun i => .entryRead .check .shadow (.pool i)) ++
    (allPorts.flatMap fun p => allClasses.map fun c => .limitRead .check .shadow p c)

/-- A check with its first reads outstanding (R188). -/
def CheckWork.start : CheckWork :=
  { records := [], policers := [], quotas := [], limits := [], unknownPool := none,
    waiting := .records :: .unknownPool :: (allPools.map .pool) ++
      (allPorts.flatMap fun p => allClasses.map fun c => .limit p c) }

/-- The in-progress request that a request in hand becomes (R156). -/
def AgentHand.progress (h : AgentHand) (k : ProgressKind) : InProgress :=
  { token := reqToken h.payload, number := reqNumber h.payload, kind := k, side := h.side }

/-- A check begun: CHECKING, the timer stopped, the first reads sent; the handling of the request ends (R188, R192). -/
def State.beginCheck (s : State) (h : AgentHand) (k : ProgressKind) : State :=
  (s.withAgt
    { s.agt.stopTimer with
      mode := .checking, progress := some (h.progress k), check := some .start, hand := none }).send checkReads

/-- COMMITTING entered with no report taken: the preferred lane of the shadow is read (R193). -/
def State.beginCommit (s : State) : State :=
  (s.withAgt
    { s.agt.stopTimer with
      mode := .committing, hand := none,
      commit := some
        { lane := .l0, swapped := false, admission := false, egress := false, merge := false, replicator := false } }).send
    [.deviceRead .commit .shadow 1]

/-- CHECK by shadow status (R188). -/
def State.serveCheck (s : State) (h : AgentHand) : State :=
  match s.agt.shadow with
  | .absent => s.answer h .noChange 0 []
  | .checked _ => s.answer h .ok 0 []
  | .dirty _ => s.beginCheck h .check

/-- COMMIT by shadow status and digest (R192). -/
def State.serveCommit (s : State) (h : AgentHand) (digest : Word32) : State :=
  match s.agt.shadow with
  | .absent => s.answer h .noChange 0 []
  | .checked rem =>
    if ~~~ rem = digest then (s.withAgt { s.agt with progress := some (h.progress .commit) }).beginCommit
    else s.answer h .digestMismatch 0 []
  | .dirty rem => if ~~~ rem = digest then s.beginCheck h .commit else s.answer h .digestMismatch 0 []

/-! ## Session, ABANDON and RESTART -/

/-- OPEN: the session opened, or confirmed to its holder (R161). -/
def State.serveOpen (s : State) (h : AgentHand) : State :=
  match s.agt.mode with
  | .noSession =>
    (s.withAgt ({ s.agt with
                  mode := .session, session := some { token := reqToken h.payload, timer := none } }.startTimer
                s.clock.millis)).answer h .ok 0 []
  | _ => s.answer h .ok 0 []

/-- CLOSE: the reply waits for the three discards (R163). -/
def State.serveClose (s : State) : State := (s.withAgt (s.agt.setStage .discarding)).endSession .closing

/-- ABANDON: the shadow discarded, or NO-CHANGE (R187). -/
def State.serveAbandon (s : State) (h : AgentHand) : State :=
  match s.agt.shadow with
  | .absent => s.answer h .noChange 0 []
  | _ => (s.withAgt (s.agt.setStage .discarding)).discardShadow .abandoning

/-- RESTART: RESTARTING, the timer stopped, and an OK reply whose release lets the restart take effect (R173). -/
def State.serveRestart (s : State) (h : AgentHand) (k : RestartKind) : State :=
  (s.withAgt
    { (s.agt.setStage .replying).stopTimer with
      mode := .restarting, progress := some (h.progress .restart),
      restart := some { kind := k, phase := .replying } }).reply h.side (reqToken h.payload) (reqNumber h.payload)
    (reqKindCode h.payload) .ok 0 [] true

/-- A served request carried out under its own rule (R161 to R173, R182 to R188, R192). -/
def State.serve (s : State) (h : AgentHand) : Req → State
  | .openSession => s.serveOpen h
  | .closeSession => s.serveClose
  | .putDirectory rs => s.serveStaging h (.putDirectory rs)
  | .putPolicers es => s.serveStaging h (.putPolicers es)
  | .putPools es => s.serveStaging h (.putPools es)
  | .putQueues es => s.serveStaging h (.putQueues es)
  | .putDevice es => s.serveStaging h (.putDevice es)
  | .dropKeys ks => s.serveStaging h (.dropKeys ks)
  | .clearBank => s.serveStaging h .clearBank
  | .abandon => s.serveAbandon h
  | .checkShadow => s.serveCheck h
  | .commit d => s.serveCommit h d
  | .readDirectory b k => s.askReads (.readDirectory b k) [.classifier] [.recordRead b k]
  | .readPolicer b i => s.askReads (.readPolicer b i) [.admission] [.entryRead .request b (.policer i)]
  | .readPool b i => s.askReads (.readPool b i) [.admission] [.entryRead .request b (.pool i)]
  | .readQueue b p c => s.askReads (.readQueue b p c) [.egress] [.limitRead .request b p c]
  | .readDevice b i => s.askReads (.readDevice b i) [.classifier] [.deviceRead .request b i]
  | .readNext b k n => s.askReads (.readNext b k n) [.classifier] [.nextRead .request b k n]
  | .statsKey k clear => s.askReads (.statsKey k clear) [.merge] [.counterRead .merge (.key k .inbound) clear]
  | .statsPort p clear =>
    s.askReads (.statsPort p clear) [.receiver p, .classifier, .egress]
      [.counterRead (.receiver p) (.port p) clear, .counterRead .classifier (.port p) clear,
        .counterRead .egress (.port p) clear]
  | .statsDevice clear =>
    s.askReads (.statsDevice clear) [.classifier, .merge, .replicator]
      [.counterRead .classifier .device clear, .counterRead .merge .device clear, .counterRead .replicator .device clear]
  | .status =>
    s.askReads .status [.receiver .l0, .receiver .l1, .receiver .t, .admission, .merge]
      [.stateRead (.receiver .l0), .stateRead (.receiver .l1), .stateRead (.receiver .t), .stateRead .admission,
        .stateRead .merge]
  | .restart k => s.serveRestart h k

/-! ## Taking a request (R155, R157 to R160) -/

/-- The session timer has come, in SESSION (R162, R164). -/
def Agent.expiryDue (a : Agent) (now : Nat) : Bool :=
  match a.mode, a.session with
  | .session, some { token := _, timer := some e } => decide (e ≤ now)
  | _, _ => false

/-- Whether a deferred event waits (R157). -/
def Agent.deferredWaits (a : Agent) (now : Nat) : Bool :=
  !a.deferred.isEmpty || (a.expiryDeferred && a.expiryDue now)

/-- Whether a reply is ready or on the output (R157). -/
def Agent.replyUnderWay (a : Agent) : Bool :=
  a.ready.isSome || (match a.output with | some o => o.reply | none => false)

/-- Whether the agent takes the head request: none in hand, no reply under way, no discard to be answered, no deferred event
waiting (R155, R157, R163). -/
def Agent.takesRequest (a : Agent) (now : Nat) : Bool :=
  a.hand.isNone && !a.replyUnderWay && a.discard.isNone && !a.deferredWaits now

/-- Whether a request's token is whole and the holder's, in SESSION: its take restarts the session timer (R162). -/
def Agent.renews (a : Agent) (p : List Byte) : Bool :=
  a.mode == .session && 4 ≤ p.length && a.holds (reqToken p)

/-- The agent with the head entry `e` taken into hand (R155, R162). -/
def Agent.begin (a : Agent) (e : RequestEntry) (rest : List RequestEntry) (now : Nat) : Agent :=
  let a := if a.renews (framePayload e.buf) then a.startTimer now else a
  { a with
    queue := rest, expiryDeferred := false,
    hand := some { side := e.side, payload := framePayload e.buf, stage := .replying } }

/-- What the retransmission test finds (R158). -/
inductive Repeat | fresh | cached (payload : List Byte) | ignored
  deriving DecidableEq, Repr

/-- The retransmission test (R158). -/
def Agent.retransmission (a : Agent) (p : List Byte) : Repeat :=
  if p.length < 6 ∨ reqToken p = 0 then .fresh
  else
    let same := match a.progress with
      | some q => q.token == reqToken p && q.number == reqNumber p
      | none => false
    match a.cache with
    | some c =>
      if c.token = reqToken p ∧ c.number = reqNumber p then .cached c.payload else if same then .ignored else .fresh
    | none => if same then .ignored else .fresh

/-- A cached reply resent toward the side of its retransmission; the cache stays (R158, R166). -/
def State.resend (s : State) (h : AgentHand) (payload : List Byte) : State :=
  (s.withAgt { s.agt with ready := some { side := h.side, payload := payload, restart := false } }).outputChoice

/-- The request in hand tested and served (R158 to R160). -/
def State.handleRequest (s : State) (h : AgentHand) : State :=
  match s.agt.retransmission h.payload with
  | .cached payload => s.resend h payload
  | .ignored => s.withAgt { s.agt with hand := none }
  | .fresh =>
    match parseRequest h.payload with
    | .error (r, i) => s.answer h .malformed (detailOf r i) []
    | .ok r =>
      match s.agt.refusal (reqToken h.payload) r.access with
      | some st => s.answer h st 0 []
      | none => s.serve h r

/-- The take of the head entry, when its row is `row` (R155, R157, log 9). -/
def State.takeRequest (s : State) (row : RequestRow) : Result :=
  match s.agt.queue with
  | [] => .next s
  | e :: rest =>
    if requestRow (framePayload e.buf) = row ∧ s.agt.takesRequest s.clock.millis = true then
      .next ((s.withAgt (s.agt.begin e rest s.clock.millis)).handleRequest
        { side := e.side, payload := framePayload e.buf, stage := .replying })
    else .next s

/-! ## The rows -/

/-- UNKNOWN_KIND_REQUEST: a request whose kind no row of R12 has, or that is too short to carry one (R11, R13). -/
def execUnknownKindRequest (s : State) : Result := s.takeRequest .unknownKind

/-- OPEN (R161). -/
def execOpenSession (s : State) : Result := s.takeRequest .openSession

/-- CLOSE (R163). -/
def execCloseSession (s : State) : Result := s.takeRequest .closeSession

/-- PUT_DIRECTORY (R182). -/
def execPutDirectory (s : State) : Result := s.takeRequest .putDirectory

/-- PUT_POLICERS (R183). -/
def execPutPolicers (s : State) : Result := s.takeRequest .putPolicers

/-- PUT_POOLS (R183). -/
def execPutPools (s : State) : Result := s.takeRequest .putPools

/-- PUT_QUEUES (R183). -/
def execPutQueues (s : State) : Result := s.takeRequest .putQueues

/-- PUT_DEVICE (R183). -/
def execPutDevice (s : State) : Result := s.takeRequest .putDevice

/-- DROP (R184). -/
def execDropKeys (s : State) : Result := s.takeRequest .dropKeys

/-- CLEAR (R185). -/
def execClearBank (s : State) : Result := s.takeRequest .clearBank

/-- ABANDON (R187). -/
def execAbandon (s : State) : Result := s.takeRequest .abandon

/-- CHECK (R188). -/
def execCheckShadow (s : State) : Result := s.takeRequest .checkShadow

/-- COMMIT (R192). -/
def execCommit (s : State) : Result := s.takeRequest .commit

/-- READ_DIRECTORY (R169). -/
def execReadDirectory (s : State) : Result := s.takeRequest .readDirectory

/-- READ_POLICERS (R169). -/
def execReadPolicers (s : State) : Result := s.takeRequest .readPolicers

/-- READ_POOLS (R169). -/
def execReadPools (s : State) : Result := s.takeRequest .readPools

/-- READ_QUEUES (R169). -/
def execReadQueues (s : State) : Result := s.takeRequest .readQueues

/-- READ_DEVICE (R169). -/
def execReadDevice (s : State) : Result := s.takeRequest .readDevice

/-- READ_NEXT (R170). -/
def execReadNext (s : State) : Result := s.takeRequest .readNext

/-- READ_STATS_KEY (R171). -/
def execReadStatsKey (s : State) : Result := s.takeRequest .readStatsKey

/-- READ_STATS_PORT (R171). -/
def execReadStatsPort (s : State) : Result := s.takeRequest .readStatsPort

/-- READ_STATS_DEVICE (R171). -/
def execReadStatsDevice (s : State) : Result := s.takeRequest .readStatsDevice

/-- STATUS (R172). -/
def execStatus (s : State) : Result := s.takeRequest .status

/-- RESTART_TRAFFIC (R173). -/
def execRestartTraffic (s : State) : Result := s.takeRequest .restartTraffic

/-- RESTART_FULL (R173). -/
def execRestartFull (s : State) : Result := s.takeRequest .restartFull

end Sys2Proof.Machine
end

