-- ==== Sys2Proof/Machine/AgentEvents.lean ====
section
/-! DEFINITION. AgentEvents.lean: the answers and reports the agent takes (R169 to R172, R180 to R195), the end of a restart
(R176), its timers and its notices (R164, R210, R211). -/

namespace Sys2Proof.Machine

/-! ## Events deferred past a request in hand (R157) -/

/-- An event on the agent's state that a request in hand defers: its message then waits at the agent, and is taken from
there when the event comes again with no request in hand (R157, log 6). -/
def State.agentEvent {α : Type} (s : State) (sel : Msg → Option α) (k : α → State → State) : Result :=
  if s.agt.hand.isSome then
    match takeFirst (fun m => (sel m).map fun _ => m) s.net with
    | none => .next s
    | some (m, rest) => .next { s with net := rest, agt := { s.agt with deferred := s.agt.deferred ++ [m] } }
  else
    match takeFirst sel s.agt.deferred with
    | some (a, rest) => .next (k a (s.withAgt { s.agt with deferred := rest }))
    | none => s.onMsg sel k

/-! ## Answers to staging requests (R180, R181, R186, R187) -/

/-- Picks a block's answer to a shadow create. -/
def selCreateAns (b : Block) : Msg → Option Bool
  | .shadowCreateAns b' c => if b' = b then some c else none
  | _ => none

/-- A shadow-create answer: after the third the request is applied (R180). -/
def State.createAnswer (s : State) (b : Block) : State :=
  match s.agt.hand with
  | some { side := _, payload := _, stage := .creating r w } =>
    let rest := w.erase b
    if rest.isEmpty then (s.withAgt (s.agt.setStage (.writing true))).send (writeOf r)
    else s.withAgt (s.agt.setStage (.creating r rest))
  | _ => s

/-- SHADOW_CREATE_ANSWER (R180). -/
def execShadowCreateAnswer (b : Block) (s : State) : Result :=
  s.onMsg (selCreateAns b) fun _ s => s.createAnswer b

/-- Picks a block's answer to a shadow write. -/
def selWriteAns (b : Block) : Msg → Option WriteResult
  | .shadowWriteAns b' r => if b' = b then some r else none
  | _ => none

/-- The status and the index of a refused shadow write (R181, R182, R184). -/
def refusedWrite : WriteResult → Status × Nat
  | .done => (.ok, 0)
  | .shadowFull => (.shadowFull, 0)
  | .notFound i => (.notFound, i)
  | .noShadow => (.noChange, 0)

/-- The remainder of the running digest (R186); that of a shadow that is ABSENT or new covers no bytes. -/
def ShadowStatus.remainder : ShadowStatus → Word32
  | .absent => crcStart
  | .dirty rem => rem
  | .checked rem => rem

/-- An answer to a shadow write: an OK extends the digest and makes the shadow DIRTY; a refusal of the request that created
the shadow undoes the creation first (R180, R181, R186). -/
def State.writeAnswer (s : State) (r : WriteResult) : State :=
  match s.agt.hand with
  | some { side := sd, payload := p, stage := .writing fresh } =>
    let h : AgentHand := { side := sd, payload := p, stage := .writing fresh }
    match r, fresh with
    | .done, _ =>
      (s.withAgt { s.agt with shadow := .dirty (crcRun s.agt.shadow.remainder (recordArea p)) }).answer h .ok 0 []
    | r, true => (s.withAgt (s.agt.setStage .discarding)).discardShadow (.undo r)
    | r, false => s.answer h (refusedWrite r).1 (refusedWrite r).2 []
  | _ => s

/-- SHADOW_WRITE_ANSWER (R181). -/
def execShadowWriteAnswer (b : Block) (s : State) : Result :=
  s.onMsg (selWriteAns b) fun r s => s.writeAnswer r

/-- Picks a block's answer to a shadow discard. -/
def selDiscardAns (b : Block) : Msg → Option Unit
  | .shadowDiscardAns b' => if b' = b then some () else none
  | _ => none

/-- What follows the third discard answer (R163, R164, R180, R187). -/
def State.discardDone (s : State) (why : DiscardWhy) : State :=
  match why, s.agt.hand with
  | .closing, some h => s.answer h .ok 0 []
  | .abandoning, some h => (s.withAgt { s.agt with shadow := .absent }).answer h .ok 0 []
  | .undo r, some h => s.answer h (refusedWrite r).1 (refusedWrite r).2 []
  | _, _ => s

/-- A discard answer (R163). -/
def State.discardAnswer (s : State) (b : Block) : State :=
  match s.agt.discard with
  | none => s
  | some d =>
    let rest := d.waiting.erase b
    if rest.isEmpty then (s.withAgt { s.agt with discard := none }).discardDone d.why
    else s.withAgt { s.agt with discard := some { d with waiting := rest } }

/-- SHADOW_DISCARD_ANSWER (R163). -/
def execShadowDiscardAnswer (b : Block) (s : State) : Result :=
  s.onMsg (selDiscardAns b) fun _ s => s.discardAnswer b

/-! ## Answers to reads (R169 to R172) -/

/-- The counters a block answered, none where it answered no set. -/
def countersOf (got : List (Block × ReadAnswer)) (b : Block) : List Word32 :=
  match got.lookup b with
  | some (.counters cs) => cs
  | _ => []

/-- The counter at a position of a list. -/
def counterAt (cs : List Word32) (i : Nat) : Word32 := cs.getD i 0

/-- The seven counters of a port in the order of R207. -/
def portCounters (p : Port) (got : List (Block × ReadAnswer)) : List Word32 :=
  let r := countersOf got (.receiver p)
  let c := countersOf got .classifier
  let e := countersOf got .egress
  [counterAt r 0, counterAt r 1, counterAt r 2, partSum (counterAt r 3) (counterAt c 0), counterAt e 0, counterAt e 1,
    counterAt e 2]

/-- The eleven device counters in the order of R207; `own` is the agent's part of replies-unsent. -/
def deviceCounters (own : Word32) (got : List (Block × ReadAnswer)) : List Word32 :=
  let c := countersOf got .classifier
  let m := countersOf got .merge
  let r := countersOf got .replicator
  c.take 8 ++ [partSum (counterAt m 0) (counterAt r 0), counterAt c 8, partSum (counterAt r 1) own]

/-- The set of a key: the eleven of an inbound set or the five of an outbound one (R205, R206). -/
def keyCounters (got : List (Block × ReadAnswer)) : List Word32 :=
  countersOf got .merge ++ countersOf got .replicator ++ countersOf got .admission

/-- The code of an agent state (R17). -/
def modeCode : AgentMode → Nat
  | .noSession => 0
  | .session => 1
  | .checking => 2
  | .committing => 3
  | .restarting => 4

/-- The code of a shadow status (R17). -/
def shadowCode : ShadowStatus → Nat
  | .absent => 0
  | .dirty _ => 1
  | .checked _ => 2

/-- Whether a receiver answered UP. -/
def gotUp (got : List (Block × ReadAnswer)) (p : Port) : Bool := got.lookup (.receiver p) == some (.link .up)

/-- The results of STATUS (R17, R172). -/
def statusBytes (node : Byte) (a : Agent) (got : List (Block × ReadAnswer)) : List Byte :=
  let links := flag (gotUp got .l0) + 2 * flag (gotUp got .l1) + 4 * flag (gotUp got .t)
  let mem := match got.lookup .admission with
    | some (.memory f r ps) => (f, r, ps.toList)
    | _ => (0, 0, [])
  let holds := match got.lookup .merge with
    | some (.holds n) => n
    | _ => 0
  [node] ++ toBE 1 (modeCode a.mode) ++ toBE 1 (shadowCode a.shadow) ++ toBE 1 (flag a.session.isSome) ++ toBE 1 links ++
    [0] ++ toBE 2 mem.1 ++ toBE 2 mem.2.1 ++ toBE 2 holds ++ (mem.2.2.flatMap fun n => toBE 2 n) ++
    toBE 1 a.notices.length ++ [0] ++ a.notices.flatMap noticeHead

/-- The reply to a READ by its owner's answer: status and results (R17, R169, R170). -/
def readReply : ReadAnswer → Status × List Byte
  | .noShadow => (.noChange, [])
  | .noRecord => (.notFound, [])
  | .record r => (.ok, encodeDir r)
  | .records rs => (.ok, toBE 1 rs.length ++ rs.flatMap encodeDir)
  | .device e => (.ok, encodeDevice e)
  | .policer e none => (.ok, encodePolicer e)
  | .policer e (some credit) => (.ok, encodePolicer e ++ toBE 4 credit)
  | .pool e => (.ok, encodePool e)
  | .limit e => (.ok, encodeQueue e)
  | _ => (.notFound, [])

/-- Scope and selector of a READ-STATS, as in the request (R17). -/
def scopeBytes (p : List Byte) : List Byte := slice p 9 5

/-- The reply built when the reads of the request in hand are in (R169 to R172). -/
def State.readsDone (s : State) (h : AgentHand) (r : Req) (got : List (Block × ReadAnswer)) : State :=
  match r with
  | .statsKey _ _ => s.answer h .ok 0 (scopeBytes h.payload ++ counterBytes (keyCounters got))
  | .statsPort p _ => s.answer h .ok 0 (scopeBytes h.payload ++ counterBytes (portCounters p got))
  | .statsDevice clear =>
    (if clear then s.withAgt { s.agt with unsent := 0 } else s).answer h .ok 0
      (scopeBytes h.payload ++ counterBytes (deviceCounters s.agt.unsent got))
  | .status => s.answer h .ok 0 (statusBytes s.node s.agt got)
  | _ =>
    match got with
    | (_, a) :: _ => s.answer h (readReply a).1 0 (readReply a).2
    | [] => s

/-- Picks a block's answer to a read of the request in hand. -/
def selReadAns (b : Block) : Msg → Option ReadAnswer
  | .readAns b' a => if b' = b then some a else none
  | _ => none

/-- An answer to a read of the request in hand: READ-STATS of a key goes on to the replicator and the admission unit; after
the last answer the reply is built (R169 to R172, R208). -/
def State.readAnswer (s : State) (b : Block) (a : ReadAnswer) : State :=
  match s.agt.hand with
  | some { side := sd, payload := p, stage := .reading r w got } =>
    let h : AgentHand := { side := sd, payload := p, stage := .reading r w got }
    let got' := got ++ [(b, a)]
    match r, b, a with
    | .statsKey k clear, .merge, .counters _ =>
      (s.withAgt (s.agt.setStage (.reading r [.admission] got'))).send [.counterRead .admission (.key k .inbound) clear]
    | .statsKey k clear, .merge, _ =>
      (s.withAgt (s.agt.setStage (.reading r [.replicator] []))).send [.counterRead .replicator (.key k .outbound) clear]
    | .statsKey k clear, .replicator, .counters _ =>
      (s.withAgt (s.agt.setStage (.reading r [.admission] got'))).send [.counterRead .admission (.key k .outbound) clear]
    | .statsKey _ _, .replicator, _ => s.answer h .notFound 0 []
    | _, _, _ =>
      let rest := w.erase b
      if rest.isEmpty then s.readsDone h r got' else s.withAgt (s.agt.setStage (.reading r rest got'))
  | _ => s

/-- OWNER_READ_ANSWER (R169). -/
def execOwnerReadAnswer (b : Block) (s : State) : Result :=
  s.onMsg (selReadAns b) fun a s => s.readAnswer b a

/-! ## CHECK (R188 to R190) -/

/-- The shadow quota of a pool, by the answers in. -/
def CheckWork.quota (w : CheckWork) (i : Fin 8) : Nat := (w.quotas.lookup i).getD 0

/-- The shadow limit of a queue, by the answers in. -/
def CheckWork.limit (w : CheckWork) (p : Port) (c : Class) : Nat := (w.limits.lookup (p, c)).getD 0

/-- The constraint that a directory record breaks first, if any (R189). -/
def CheckWork.recordFault (w : CheckWork) (node : Byte) (r : DirRecord) : Option Reason :=
  if r.key = ownRequestKey node ∨ r.key = ownReplyKey node then some .reservedKey
  else if (match r.policer with | some i => w.policers.lookup i != some true | none => false) then some .policerDisabled
  else if w.quota r.pool = 0 then some .poolEmpty
  else none

/-- The first failure among directory records that begin at position `i` (R189). -/
def CheckWork.recordsFault (w : CheckWork) (node : Byte) : Nat → List DirRecord → Option (Reason × Nat)
  | _, [] => none
  | i, r :: rs =>
    match w.recordFault node r with
    | some e => some (e, i)
    | none => w.recordsFault node (i + 1) rs

/-- The first port whose limits sum to more than 160 (R189). -/
def CheckWork.queueFault (w : CheckWork) : Option (Reason × Nat) :=
  (allPorts.find? fun p => decide (Config.slots < (allClasses.map (w.limit p)).sum)).map fun p => (.queueSum, portCode p)

/-- The first constraint that fails, in the order of R189, with its index. -/
def CheckWork.fault (w : CheckWork) (node : Byte) : Option (Reason × Nat) :=
  match w.recordsFault node 0 w.records with
  | some e => some e
  | none =>
    if Config.quotaSum < (allPools.map w.quota).sum then some (.poolSum, 0)
    else match w.queueFault with
    | some e => some e
    | none =>
      match w.unknownPool with
      | some i => if w.quota i = 0 then some (.unknownPoolEmpty, 0) else none
      | none => none

/-- The check completion: CHECKED and the CHECK answered OK or the COMMIT continued; or DIRTY and INVALID (R190, R192). -/
def State.checkDone (s : State) (w : CheckWork) : State :=
  let s := s.withAgt { s.agt with check := none }
  match s.agt.progress, w.fault s.node with
  | some q, some (r, i) => s.answerProgress q .invalid (detailOf r i)
  | some q, none =>
    let s := s.withAgt { s.agt with shadow := .checked s.agt.shadow.remainder }
    match q.kind with
    | .commit => s.beginCommit
    | _ => s.answerProgress q .ok 0
  | none, _ => s

/-- The policer entries that records name and that are neither read nor asked for yet (R188). -/
def CheckWork.newPolicers (w : CheckWork) (rs : List DirRecord) : List (Fin 64) :=
  (rs.filterMap (·.policer)).dedup.filter fun i => (w.policers.lookup i).isNone && !w.waiting.contains (.policer i)

/-- The start key of the next next-read: the last key returned, when the read returned 8 records (R188). -/
def nextStart (rs : List DirRecord) : Option Key := if rs.length < 8 then none else rs.getLast?.map (·.key)

/-- The check after records have been returned, and the reads it now sends (R188). -/
def CheckWork.addRecords (w : CheckWork) (rs : List DirRecord) : CheckWork × List Msg :=
  let ps := w.newPolicers rs
  let reads : List CheckRead × List Msg := match nextStart rs with
    | some k => ([.records], [.nextRead .check .shadow k 8])
    | none => ([], [])
  ({ w with records := w.records ++ rs, waiting := w.waiting ++ reads.1 ++ ps.map .policer },
    reads.2 ++ ps.map fun i => .entryRead .check .shadow (.policer i))

/-- The check with an answer other than records entered (R188). -/
def CheckWork.addAnswer (w : CheckWork) : ReadAnswer → CheckWork
  | .policer e _ => { w with policers := w.policers ++ [(e.index, e.enabled)] }
  | .pool e => { w with quotas := w.quotas ++ [(e.index, e.quota)] }
  | .limit e => { w with limits := w.limits ++ [((e.port, e.cls), e.limit)] }
  | .device (.unknownPool i) => { w with unknownPool := some i }
  | _ => w

/-- An answer to a check read: the next reads sent, and the check completed at the last answer (R188, R190). -/
def State.checkAnswer (s : State) (r : CheckRead) (a : ReadAnswer) : State :=
  match s.agt.check with
  | none => s
  | some w =>
    let w := { w with waiting := w.waiting.erase r }
    let (w, ms) := match a with
      | .records rs => w.addRecords rs
      | _ => (w.addAnswer a, [])
    let s := (s.withAgt { s.agt with check := some w }).send ms
    if w.waiting.isEmpty then s.checkDone w else s

/-- Picks the answer to a check read. -/
def selCheckAns (r : CheckRead) : Msg → Option ReadAnswer
  | .checkAns r' a => if r' = r then some a else none
  | _ => none

/-- CHECK_READ_ANSWER (R188). -/
def execCheckReadAnswer (r : CheckRead) (s : State) : Result :=
  s.agentEvent (selCheckAns r) fun a s => s.checkAnswer r a

/-! ## COMMIT (R193 to R195) -/

/-- Picks the answer to the read of the shadow preferred lane. -/
def selLaneRead : Msg → Option ReadAnswer
  | .laneAns a => some a
  | _ => none

/-- The preferred lane kept, and the three swaps asked (R193). -/
def State.laneAnswer (s : State) (a : ReadAnswer) : State :=
  match s.agt.commit, a with
  | some w, .device (.preferredLane l) =>
    (s.withAgt { s.agt with commit := some { w with lane := l } }).send (shadowBlocks.map .swap)
  | _, _ => s

/-- PREFERRED_LANE_ANSWER (R193). -/
def execPreferredLaneAnswer (s : State) : Result :=
  s.agentEvent selLaneRead fun a s => s.laneAnswer a

/-- All five completion reports are in (R195). -/
def CommitWork.complete (w : CommitWork) : Bool := w.swapped && w.admission && w.egress && w.merge && w.replicator

/-- A commit with one more report; at the fifth it completes: the shadow ABSENT, the session in SESSION, the COMMIT answered
OK with the new generation (R195). -/
def State.commitReport (s : State) (w : CommitWork) : State :=
  if w.complete then
    match s.agt.progress with
    | some q => (s.withAgt { s.agt with commit := none, shadow := .absent }).answerProgress q .ok 0
    | none => s.withAgt { s.agt with commit := some w }
  else s.withAgt { s.agt with commit := some w }

/-- Picks the classifier's swap report. -/
def selSwapReport : Msg → Option (Option SwapReport)
  | .swapReport r => some r
  | _ => none

/-- The swap report taken: the four parameters at once, then the two reconciliation requests (R194). -/
def State.swapReport (s : State) (r : Option SwapReport) : State :=
  match s.agt.commit, r with
  | some w, some r =>
    ((s.withAgt { s.agt with params := r.params }).send
      [.reconcile .merge r.gen r.changes w.lane, .reconcile .replicator r.gen r.changes w.lane]).commitReport
      { w with swapped := true }
  | _, _ => s

/-- SWAP_REPORT (R194). -/
def execSwapReport (s : State) : Result :=
  s.agentEvent selSwapReport fun r s => s.swapReport r

/-- Picks a block's swap done report. -/
def selSwapDone (b : Block) : Msg → Option Bool
  | .swapDone b' ok => if b' = b then some ok else none
  | _ => none

/-- The commit with a block's swap done report (R195). -/
def CommitWork.swapDone (w : CommitWork) (b : Block) : CommitWork :=
  match b with
  | .admission => { w with admission := true }
  | .egress => { w with egress := true }
  | _ => w

/-- A swap done report taken (R195); "no shadow" does not arise (R193, log 16). -/
def State.swapDone (s : State) (b : Block) (ok : Bool) : State :=
  match s.agt.commit, ok with
  | some w, true => s.commitReport (w.swapDone b)
  | _, _ => s

/-- SWAP_DONE (R195). -/
def execSwapDone (b : Block) (s : State) : Result :=
  s.agentEvent (selSwapDone b) fun ok s => s.swapDone b ok

/-- Picks a block's reconciliation done report. -/
def selReconcileDone (b : Block) : Msg → Option Unit
  | .reconcileDone b' => if b' = b then some () else none
  | _ => none

/-- The commit with a block's reconciliation done report (R195). -/
def CommitWork.reconcileDone (w : CommitWork) (b : Block) : CommitWork :=
  match b with
  | .merge => { w with merge := true }
  | .replicator => { w with replicator := true }
  | _ => w

/-- A reconciliation done report taken (R195). -/
def State.reconcileDone (s : State) (b : Block) : State :=
  match s.agt.commit with
  | some w => s.commitReport (w.reconcileDone b)
  | none => s

/-- RECONCILIATION_DONE (R195). -/
def execReconciliationDone (b : Block) (s : State) : Result :=
  s.agentEvent (selReconcileDone b) fun _ s => s.reconcileDone b

/-! ## Restarts (R175, R176) -/

/-- Picks the answer to the release watch. -/
def selWatchReturned : Msg → Option Unit
  | .watchReturned => some ()
  | _ => none

/-- WATCH_RETURNED: the restart event (R175). -/
def execWatchReturned (s : State) : Result :=
  s.agentEvent selWatchReturned fun _ s => s.restartEvent

/-- Picks a block's restart done report. -/
def selRestartDone (b : Block) : Msg → Option Unit
  | .restartDone b' => if b' = b then some () else none
  | _ => none

/-- The end of a restart (R176). -/
def State.restartEnd (s : State) (k : RestartKind) : State :=
  let a := { s.agt with progress := none, restart := none }
  match k with
  | .traffic => s.withAgt ({ a with mode := .session }.startTimer s.clock.millis)
  | .full => s.withAgt { a with mode := .noSession }

/-- A restart done report: after the first group's last the second group is asked; after the second's last the restart ends
(R175, R176). -/
def State.restartReport (s : State) (b : Block) : State :=
  match s.agt.restart with
  | some { kind := k, phase := .first w } =>
    if (w.erase b).isEmpty then
      (s.withAgt { s.agt with restart := some { kind := k, phase := .second (secondGroup k) } }).send
        ((secondGroup k).map fun b => .restart b k)
    else s.withAgt { s.agt with restart := some { kind := k, phase := .first (w.erase b) } }
  | some { kind := k, phase := .second w } =>
    if (w.erase b).isEmpty then s.restartEnd k
    else s.withAgt { s.agt with restart := some { kind := k, phase := .second (w.erase b) } }
  | _ => s

/-- RESTART_DONE (R176). -/
def execRestartDone (b : Block) (s : State) : Result :=
  s.agentEvent (selRestartDone b) fun _ s => s.restartReport b

/-! ## Timers and notices (R19, R164, R210, R211) -/

/-- SESSION_TIMER_EXPIRY: taken when the timer has come, in SESSION; it ends the session and raises SESSION-END (R164, log
13). A request in hand defers it (R157). -/
def execSessionTimerExpiry (s : State) : Result :=
  if s.agt.expiryDue s.clock.millis then
    if s.agt.hand.isSome then .next (s.withAgt { s.agt with expiryDeferred := true })
    else .next ((s.withAgt (s.agt.raise .sessionEnd 0)).endSession .timeout)
  else .next s

/-- Picks a raise of a kind and detail. -/
def selNotice (k : NoticeKind) (d : Word32) : Msg → Option Unit
  | .notice k' d' => if k' = k ∧ d' = d then some () else none
  | _ => none

/-- NOTICE_RAISE (R210). -/
def execNoticeRaise (kind : NoticeKind) (detail : Word32) (s : State) : Result :=
  s.onMsg (selNotice kind detail) fun _ s => s.withAgt (s.agt.raise kind detail)

/-- The handout of the head entry at a pacing expiry (R211). -/
def Agent.handOut (a : Agent) : Agent :=
  match a.params.noticeDestination, a.notices, a.handed with
  | .off, _, _ => a
  | d, e :: es, none => { a with notices := es, handed := some { entry := e, dest := d } }
  | _, _, _ => a

/-- PACING_EXPIRY: taken when the pacing timer has come; the next interval starts at it (R211, log 21). -/
def execPacingExpiry (s : State) : Result :=
  if s.agt.pacing ≤ s.clock.millis then
    .next (s.withAgt { s.agt with pacing := s.agt.pacing + s.agt.params.noticeInterval }.handOut).outputChoice
  else .next s

/-- TIME_COUNT_TICK: a millisecond has passed (R19, log 3). -/
def execTimeCountTick (s : State) : Result :=
  .next
    { s with
      agt := { s.agt with timeCount := s.agt.timeCount + 1 }, clock := { s.clock with millis := s.clock.millis + 1 } }

end Sys2Proof.Machine
end

