-- ==== Sys2Proof/Machine/MergeControl.lean ====
section
/-! DEFINITION. MergeControl.lean: the merge engine's timers (R69, R87), reconciliation requests and steps (R52), reads
(R172, R208) and restarts (R74, R75). -/

namespace Sys2Proof.Machine

/-- An event deferred past the entry in hand, once (R51). -/
def State.mergeDefer (s : State) (e : MergeDeferred) : State :=
  if s.mrg.deferred.contains e then s else s.withMrg { s.mrg with deferred := s.mrg.deferred ++ [e] }

/-- A deferred event that has now been taken (R51). -/
def State.mergeTaken (s : State) (e : MergeDeferred) : State :=
  s.withMrg { s.mrg with deferred := s.mrg.deferred.filter fun x => !(x == e) }

/-- An event of the merge engine that waits past an entry in hand: deferred, or taken now (R51). -/
def State.mergeEvent (s : State) (e : MergeDeferred) (k : State → State) : State :=
  if s.mrg.hand.isSome then s.mergeDefer e else k (s.mergeTaken e)

/-- A silence expiry on a directory stream (R69, R92): held frames released, the record FRESH, STREAM-RESET raised. -/
def State.silenceReset (s : State) (st : Stream) : State :=
  (s.withMrg (s.mrg.upd st.key fun x =>
    { x with recov := x.recov.reset, counts := { x.counts with resets := bump x.counts.resets } })).send
    (st.recov.held.map (releaseMsg st) ++ alarmMsgs true st.key)

/-- A silence expiry on the management record (R69, R71). -/
def State.silenceResetManagement (s : State) : State :=
  (s.withMrg
    { s.mrg with
      mgmt := s.mrg.mgmt.reset,
      mgmtCounts := { s.mrg.mgmtCounts with resets := bump s.mrg.mgmtCounts.resets } }).send
    (alarmMsgs true (ownRequestKey s.node))

/-- SILENCE_EXPIRY: taken when the record's silence timer has come (R69). -/
def execSilenceExpiry (r : RecordSel) (s : State) : Result :=
  match r with
  | .management =>
    if s.mrg.mgmt.silenceDue s.clock.millis then .next (s.mergeEvent (.silence .management) State.silenceResetManagement)
    else .next s
  | .key k =>
    match s.mrg.find k with
    | none => .next s
    | some st =>
      if st.recov.silenceDue s.clock.millis then .next (s.mergeEvent (.silence (.key k)) fun s => s.silenceReset st)
      else .next s

/-- A hold expiry on a stream (R87). -/
def State.holdExpired (s : State) (st : Stream) : State :=
  match st.recov.tracking with
  | none => s
  | some t =>
    match t.ordered with
    | none => s
    | some o =>
      let (t', lost, out) := expireHold s.clock.tens t o
      (s.withMrg (s.mrg.upd st.key fun x =>
        { x with recov := { x.recov with tracking := some t' }, counts := { x.counts with lost := count x.counts.lost lost } })).send
        (out.map (releaseMsg st))

/-- HOLD_TIMER_EXPIRY: taken when the stream's hold timer has come (R87, R88). -/
def execHoldTimerExpiry (k : Key) (s : State) : Result :=
  match s.mrg.find k with
  | none => .next s
  | some st =>
    if st.recov.holdDue s.clock.tens then .next (s.mergeEvent (.hold k) fun s => s.holdExpired st) else .next s

/-- A reconciliation request taken (R52): new parameter generation, the entries that concern the merge engine pending. -/
def State.mergeRequest (s : State) (g : Gen) (cs : List ChangeEntry) : State :=
  let pending := cs.filter s.mrg.concerns
  (s.withMrg { s.mrg with gen := g, pending := pending }).send (if pending.isEmpty then [.reconcileDone .merge] else [])

/-- MERGE_RECONCILIATION_REQUEST (R52); it stays deferred, still on its way, while an entry is in hand (R51). -/
def execMergeReconciliationRequest (s : State) : Result :=
  match takeFirst (selReconcile .merge) s.net with
  | none => .next s
  | some (q, rest) =>
    if s.mrg.hand.isSome then .next (s.mergeDefer .request)
    else .next ((State.mergeTaken { s with net := rest } .request).mergeRequest q.1 q.2.1)

/-- MERGE_RECONCILE_KEY: the lowest pending key, between handlings (R52). -/
def execMergeReconcileKey (s : State) : Result :=
  match s.mrg.pending with
  | [] => .next s
  | e :: _ => .next (s.mergeEvent .reconcileStep fun s => s.mergeStep e)

/-- HOLD_STATE_READ: the hold entries in use (R172). -/
def execHoldStateRead (s : State) : Result :=
  s.onMsg (selStateRead .merge) fun _ s => s.send [.readAns .merge (.holds s.mrg.holdInUse)]

/-- MERGE_COUNTER_READ: an inbound key's nine counters, the management stream's under the own request key, or the part of
withdrawn, cleared when asked (R171, R208). -/
def execMergeCounterRead (s : State) : Result :=
  s.onMsg (selCounterRead .merge) fun q s =>
    match q.1 with
    | .key k _ =>
      if k = ownRequestKey s.node then
        (if q.2 then s.withMrg { s.mrg with mgmtCounts := .zero } else s).send
          [.readAns .merge (.counters s.mrg.mgmtCounts.toList)]
      else match s.mrg.find k with
      | none => s.send [.readAns .merge .noSet]
      | some st =>
        (if q.2 then s.withMrg (s.mrg.upd k fun x => { x with counts := .zero }) else s).send
          [.readAns .merge (.counters st.counts.toList)]
    | _ =>
      (if q.2 then s.withMrg { s.mrg with withdrawn := 0 } else s).send
        [.readAns .merge (.counters [s.mrg.withdrawn])]

/-- A stream at a TRAFFIC restart (R75): FRESH, its held frames counted in withdrawn-held. -/
def Stream.trafficReset (st : Stream) : Stream :=
  { st with
    recov := st.recov.reset,
    counts := { st.counts with withdrawnHeld := count st.counts.withdrawnHeld st.recov.held.length } }

/-- The merge engine after a TRAFFIC restart (R75). -/
def Merge.trafficRestart (m : Merge) : Merge :=
  { m with
    streams := m.streams.map Stream.trafficReset, mgmt := m.mgmt.reset, queue := [], hand := none,
    deferred := m.deferred.filter (· == .request) }

/-- The releases of every held frame's hold reference (R93). -/
def Merge.discards (m : Merge) : List Msg := m.streams.flatMap fun st => st.recov.held.map fun h => .release h.ref

/-- MERGE_TRAFFIC_RESTART (R75). -/
def execMergeTrafficRestart (s : State) : Result :=
  s.onMsg (selRestart .merge .traffic) fun _ s =>
    (s.withMrg s.mrg.trafficRestart).send (s.mrg.discards ++ [.restartDone .merge])

/-- MERGE_FULL_RESTART: held frames discarded as at a TRAFFIC restart, then the power-on values (R74); the model's own
numbers run on (log 7). -/
def execMergeFullRestart (s : State) : Result :=
  s.onMsg (selRestart .merge .full) fun _ s =>
    (s.withMrg { Merge.powerOn with handNo := s.mrg.handNo, bornNo := s.mrg.bornNo }).send
      (s.mrg.discards ++ [.restartDone .merge])

end Sys2Proof.Machine
end

