-- ==== Sys2Proof/Machine/PowerOn.lean ====
section
/-! DEFINITION. PowerOn.lean: the power-on reset of the whole part (R44, R74, R116, R131, R138, R151, R154, R177). -/

namespace Sys2Proof.Machine

/-- POWER_ON_RESET: every block at its power-on values with the strap levels and link indications latched; the commands that
wait outside the part stay (log 24). The model's transmission numbers run on, so a completion that names a transmission of
before the reset names no later one and is ignored (R151, log 7). -/
def execPowerOnReset (straps : Byte) (l0 l1 t : Link) (s : State) : Result :=
  .next
    { State.powerOn straps ⟨l0, l1, t⟩ with
      egr := { Egress.powerOn ⟨l0, l1, t⟩ with nextTx := s.egr.nextTx }, pending := s.pending }

end Sys2Proof.Machine
end

