-- ==== Sys2Proof/Machine/Dispatch.lean ====
section
/-! DEFINITION. Dispatch.lean: the meaning of each command, one arm for each constructor of `Instr`. -/

namespace Sys2Proof.Machine

def exec (i : Instr) (s : State) : Host.Outcome State Fault Refusal :=
  match i with
  | .powerOnReset straps l0 l1 t => Sys2Proof.Machine.execPowerOnReset straps l0 l1 t s
  | .linkChange p st => Sys2Proof.Machine.execLinkChange p st s
  | .frameStart p bytes => Sys2Proof.Machine.execFrameStart p bytes s
  | .frameEnd p err => Sys2Proof.Machine.execFrameEnd p err s
  | .timeCountTick => Sys2Proof.Machine.execTimeCountTick s
  | .classify p => Sys2Proof.Machine.execClassify p s
  | .classifierLinkChange l => Sys2Proof.Machine.execClassifierLinkChange l s
  | .classifierShadowCreate => Sys2Proof.Machine.execClassifierShadowCreate s
  | .classifierShadowDiscard => Sys2Proof.Machine.execClassifierShadowDiscard s
  | .recordWrite => Sys2Proof.Machine.execRecordWrite s
  | .removal => Sys2Proof.Machine.execRemoval s
  | .emptyBankWrite => Sys2Proof.Machine.execEmptyBankWrite s
  | .deviceWrite => Sys2Proof.Machine.execDeviceWrite s
  | .recordRead => Sys2Proof.Machine.execRecordRead s
  | .classifierEntryRead u => Sys2Proof.Machine.execClassifierEntryRead u s
  | .nextRead u => Sys2Proof.Machine.execNextRead u s
  | .classifierSwap => Sys2Proof.Machine.execClassifierSwap s
  | .classifierCounterRead => Sys2Proof.Machine.execClassifierCounterRead s
  | .classifierTrafficRestart => Sys2Proof.Machine.execClassifierTrafficRestart s
  | .classifierFullRestart => Sys2Proof.Machine.execClassifierFullRestart s
  | .takeDirectoryArrival => Sys2Proof.Machine.execTakeDirectoryArrival s
  | .takeUnknownArrival => Sys2Proof.Machine.execTakeUnknownArrival s
  | .takeManagementArrival => Sys2Proof.Machine.execTakeManagementArrival s
  | .mergeGrantAnswer => Sys2Proof.Machine.execMergeGrantAnswer s
  | .mergePlacementAnswer => Sys2Proof.Machine.execMergePlacementAnswer s
  | .managementPlacementAnswer => Sys2Proof.Machine.execManagementPlacementAnswer s
  | .releaseEnqueueAnswer frame => Sys2Proof.Machine.execReleaseEnqueueAnswer frame s
  | .silenceExpiry r => Sys2Proof.Machine.execSilenceExpiry r s
  | .holdTimerExpiry k => Sys2Proof.Machine.execHoldTimerExpiry k s
  | .mergeReconciliationRequest => Sys2Proof.Machine.execMergeReconciliationRequest s
  | .mergeReconcileKey => Sys2Proof.Machine.execMergeReconcileKey s
  | .holdStateRead => Sys2Proof.Machine.execHoldStateRead s
  | .mergeCounterRead => Sys2Proof.Machine.execMergeCounterRead s
  | .mergeTrafficRestart => Sys2Proof.Machine.execMergeTrafficRestart s
  | .mergeFullRestart => Sys2Proof.Machine.execMergeFullRestart s
  | .grantRequest who => Sys2Proof.Machine.execGrantRequest who s
  | .reserveGrantRequest who => Sys2Proof.Machine.execReserveGrantRequest who s
  | .refillExpiry => Sys2Proof.Machine.execRefillExpiry s
  | .copyAdd place => Sys2Proof.Machine.execCopyAdd place s
  | .referenceRelease frame => Sys2Proof.Machine.execReferenceRelease frame s
  | .releaseWatch => Sys2Proof.Machine.execReleaseWatch s
  | .admissionShadowCreate => Sys2Proof.Machine.execAdmissionShadowCreate s
  | .admissionShadowDiscard => Sys2Proof.Machine.execAdmissionShadowDiscard s
  | .policerWrite => Sys2Proof.Machine.execPolicerWrite s
  | .poolWrite => Sys2Proof.Machine.execPoolWrite s
  | .admissionEntryRead u e => Sys2Proof.Machine.execAdmissionEntryRead u e s
  | .admissionStateRead => Sys2Proof.Machine.execAdmissionStateRead s
  | .admissionCounterRead => Sys2Proof.Machine.execAdmissionCounterRead s
  | .counterEntryCreate who k => Sys2Proof.Machine.execCounterEntryCreate who k s
  | .counterEntryDelete who k => Sys2Proof.Machine.execCounterEntryDelete who k s
  | .admissionSwap => Sys2Proof.Machine.execAdmissionSwap s
  | .admissionTrafficRestart => Sys2Proof.Machine.execAdmissionTrafficRestart s
  | .admissionFullRestart => Sys2Proof.Machine.execAdmissionFullRestart s
  | .replicatorReconciliationRequest => Sys2Proof.Machine.execReplicatorReconciliationRequest s
  | .replicatorReconcileKey => Sys2Proof.Machine.execReplicatorReconcileKey s
  | .replicatorLinkChange l => Sys2Proof.Machine.execReplicatorLinkChange l s
  | .takeDirectoryDeparture => Sys2Proof.Machine.execTakeDirectoryDeparture s
  | .takeUnknownDeparture => Sys2Proof.Machine.execTakeUnknownDeparture s
  | .takeHandoff => Sys2Proof.Machine.execTakeHandoff s
  | .replicatorGrantAnswer => Sys2Proof.Machine.execReplicatorGrantAnswer s
  | .replicatorReserveGrantAnswer => Sys2Proof.Machine.execReplicatorReserveGrantAnswer s
  | .replicatorEnqueueAnswer l => Sys2Proof.Machine.execReplicatorEnqueueAnswer l s
  | .replicatorCounterRead => Sys2Proof.Machine.execReplicatorCounterRead s
  | .replicatorTrafficRestart => Sys2Proof.Machine.execReplicatorTrafficRestart s
  | .replicatorFullRestart => Sys2Proof.Machine.execReplicatorFullRestart s
  | .enqueueRequest who => Sys2Proof.Machine.execEnqueueRequest who s
  | .copyAddAnswer place => Sys2Proof.Machine.execCopyAddAnswer place s
  | .transmitCompletion p tx => Sys2Proof.Machine.execTransmitCompletion p tx s
  | .egressLinkDown p => Sys2Proof.Machine.execEgressLinkDown p s
  | .egressLinkUp p => Sys2Proof.Machine.execEgressLinkUp p s
  | .egressShadowCreate => Sys2Proof.Machine.execEgressShadowCreate s
  | .egressShadowDiscard => Sys2Proof.Machine.execEgressShadowDiscard s
  | .queueWrite => Sys2Proof.Machine.execQueueWrite s
  | .egressEntryRead u p c => Sys2Proof.Machine.execEgressEntryRead u p c s
  | .egressSwap => Sys2Proof.Machine.execEgressSwap s
  | .egressCounterRead => Sys2Proof.Machine.execEgressCounterRead s
  | .egressTrafficRestart => Sys2Proof.Machine.execEgressTrafficRestart s
  | .egressFullRestart => Sys2Proof.Machine.execEgressFullRestart s
  | .linkStateRead p => Sys2Proof.Machine.execLinkStateRead p s
  | .receiverCounterRead p => Sys2Proof.Machine.execReceiverCounterRead p s
  | .receiverFullRestart p => Sys2Proof.Machine.execReceiverFullRestart p s
  | .requestPlacement => Sys2Proof.Machine.execRequestPlacement s
  | .unknownKindRequest => Sys2Proof.Machine.execUnknownKindRequest s
  | .openSession => Sys2Proof.Machine.execOpenSession s
  | .closeSession => Sys2Proof.Machine.execCloseSession s
  | .putDirectory => Sys2Proof.Machine.execPutDirectory s
  | .putPolicers => Sys2Proof.Machine.execPutPolicers s
  | .putPools => Sys2Proof.Machine.execPutPools s
  | .putQueues => Sys2Proof.Machine.execPutQueues s
  | .putDevice => Sys2Proof.Machine.execPutDevice s
  | .dropKeys => Sys2Proof.Machine.execDropKeys s
  | .clearBank => Sys2Proof.Machine.execClearBank s
  | .abandon => Sys2Proof.Machine.execAbandon s
  | .checkShadow => Sys2Proof.Machine.execCheckShadow s
  | .commit => Sys2Proof.Machine.execCommit s
  | .readDirectory => Sys2Proof.Machine.execReadDirectory s
  | .readPolicers => Sys2Proof.Machine.execReadPolicers s
  | .readPools => Sys2Proof.Machine.execReadPools s
  | .readQueues => Sys2Proof.Machine.execReadQueues s
  | .readDevice => Sys2Proof.Machine.execReadDevice s
  | .readNext => Sys2Proof.Machine.execReadNext s
  | .readStatsKey => Sys2Proof.Machine.execReadStatsKey s
  | .readStatsPort => Sys2Proof.Machine.execReadStatsPort s
  | .readStatsDevice => Sys2Proof.Machine.execReadStatsDevice s
  | .status => Sys2Proof.Machine.execStatus s
  | .restartTraffic => Sys2Proof.Machine.execRestartTraffic s
  | .restartFull => Sys2Proof.Machine.execRestartFull s
  | .shadowCreateAnswer b => Sys2Proof.Machine.execShadowCreateAnswer b s
  | .shadowWriteAnswer b => Sys2Proof.Machine.execShadowWriteAnswer b s
  | .shadowDiscardAnswer b => Sys2Proof.Machine.execShadowDiscardAnswer b s
  | .ownerReadAnswer b => Sys2Proof.Machine.execOwnerReadAnswer b s
  | .checkReadAnswer r => Sys2Proof.Machine.execCheckReadAnswer r s
  | .preferredLaneAnswer => Sys2Proof.Machine.execPreferredLaneAnswer s
  | .swapReport => Sys2Proof.Machine.execSwapReport s
  | .swapDone b => Sys2Proof.Machine.execSwapDone b s
  | .reconciliationDone b => Sys2Proof.Machine.execReconciliationDone b s
  | .agentReserveGrantAnswer => Sys2Proof.Machine.execAgentReserveGrantAnswer s
  | .agentEnqueueAnswer => Sys2Proof.Machine.execAgentEnqueueAnswer s
  | .handoffAnswer => Sys2Proof.Machine.execHandoffAnswer s
  | .watchReturned => Sys2Proof.Machine.execWatchReturned s
  | .restartDone b => Sys2Proof.Machine.execRestartDone b s
  | .sessionTimerExpiry => Sys2Proof.Machine.execSessionTimerExpiry s
  | .noticeRaise kind detail => Sys2Proof.Machine.execNoticeRaise kind detail s
  | .pacingExpiry => Sys2Proof.Machine.execPacingExpiry s

end Sys2Proof.Machine
end

