-- ==== Sys2Proof/WellFormed.lean ====
section
/-! DEFINITION. WellFormed.lean: the commands whose operands the part can send or present (log 25). A command outside them
names a message that no block sends, so it changes nothing. -/

namespace Sys2Proof

/-- The blocks that ask for a grant (R104) and keep per-key counters at the admission unit (R105, R206). -/
def Block.asksGrants : Block → Bool
  | .merge => true
  | .replicator => true
  | _ => false

/-- The blocks that ask for a reserve grant (R106). -/
def Block.asksReserve : Block → Bool
  | .replicator => true
  | .agent => true
  | _ => false

/-- The blocks that enqueue copies (R140). -/
def Block.enqueues : Block → Bool
  | .merge => true
  | .replicator => true
  | .agent => true
  | _ => false

/-- The blocks that hold a part of the shadow (R180). -/
def Block.holdsShadow : Block → Bool
  | .classifier => true
  | .admission => true
  | .egress => true
  | _ => false

/-- The blocks that answer their swap "done" (R195); the classifier's answer is the swap report. -/
def Block.swapsDone : Block → Bool
  | .admission => true
  | .egress => true
  | _ => false

/-- The blocks that reconcile (R194). -/
def Block.reconciles : Block → Bool
  | .merge => true
  | .replicator => true
  | _ => false

/-- The blocks that answer the agent's reads and restart requests: all but the agent. -/
def Block.serves : Block → Bool
  | .agent => false
  | _ => true

/-- The layout of a notice's first detail by its kind (R19). -/
def detailOk (k : NoticeKind) (d : Word32) : Bool :=
  match k with
  | .laneChange => d.toNat % 256 ≤ 1 && d.toNat / 256 ≤ 1
  | .unknownStream => 1 ≤ d.toNat && d.toNat < 2 ^ 24
  | .poolExhausted => d.toNat ≤ 7
  | .holdExhausted => 1 ≤ d.toNat && d.toNat < 2 ^ 24
  | .streamReset => 1 ≤ d.toNat && d.toNat < 2 ^ 24
  | .crossedLane => d.toNat ≤ 1
  | .sessionEnd => d == 0

/-- A recovery record that can exist: no record has key 0 (R23). -/
def RecordSel.wf : RecordSel → Bool
  | .key k => k != 0
  | .management => true

/-- A command whose operands the part can send or present. -/
def Instr.wf : Instr → Bool
  | .silenceExpiry r => r.wf
  | .holdTimerExpiry k => k != 0
  | .grantRequest who => who.asksGrants
  | .reserveGrantRequest who => who.asksReserve
  | .counterEntryCreate who k => who.asksGrants && k != 0
  | .counterEntryDelete who k => who.asksGrants && k != 0
  | .enqueueRequest who => who.enqueues
  | .shadowCreateAnswer b => b.holdsShadow
  | .shadowWriteAnswer b => b.holdsShadow
  | .shadowDiscardAnswer b => b.holdsShadow
  | .ownerReadAnswer b => b.serves
  | .swapDone b => b.swapsDone
  | .reconciliationDone b => b.reconciles
  | .restartDone b => b.serves
  | .noticeRaise k d => detailOk k d
  | .powerOnReset _ _ _ _ | .linkChange _ _ | .frameStart _ _ | .frameEnd _ _ | .timeCountTick | .classify _
  | .classifierLinkChange _ | .classifierShadowCreate | .classifierShadowDiscard | .recordWrite | .removal
  | .emptyBankWrite | .deviceWrite | .recordRead | .classifierEntryRead _ | .nextRead _ | .classifierSwap
  | .classifierCounterRead | .classifierTrafficRestart | .classifierFullRestart | .takeDirectoryArrival
  | .takeUnknownArrival | .takeManagementArrival | .mergeGrantAnswer | .mergePlacementAnswer
  | .managementPlacementAnswer | .releaseEnqueueAnswer _ | .mergeReconciliationRequest | .mergeReconcileKey
  | .holdStateRead | .mergeCounterRead | .mergeTrafficRestart | .mergeFullRestart | .refillExpiry | .copyAdd _
  | .referenceRelease _ | .releaseWatch | .admissionShadowCreate | .admissionShadowDiscard | .policerWrite
  | .poolWrite | .admissionEntryRead _ _ | .admissionStateRead | .admissionCounterRead | .admissionSwap
  | .admissionTrafficRestart | .admissionFullRestart | .replicatorReconciliationRequest | .replicatorReconcileKey
  | .replicatorLinkChange _ | .takeDirectoryDeparture | .takeUnknownDeparture | .takeHandoff | .replicatorGrantAnswer
  | .replicatorReserveGrantAnswer | .replicatorEnqueueAnswer _ | .replicatorCounterRead | .replicatorTrafficRestart
  | .replicatorFullRestart | .copyAddAnswer _ | .transmitCompletion _ _ | .egressLinkDown _ | .egressLinkUp _
  | .egressShadowCreate | .egressShadowDiscard | .queueWrite | .egressEntryRead _ _ _ | .egressSwap
  | .egressCounterRead | .egressTrafficRestart | .egressFullRestart | .linkStateRead _ | .receiverCounterRead _
  | .receiverFullRestart _ | .requestPlacement | .unknownKindRequest | .openSession | .closeSession | .putDirectory
  | .putPolicers | .putPools | .putQueues | .putDevice | .dropKeys | .clearBank | .abandon | .checkShadow | .commit
  | .readDirectory | .readPolicers | .readPools | .readQueues | .readDevice | .readNext | .readStatsKey
  | .readStatsPort | .readStatsDevice | .status | .restartTraffic | .restartFull | .checkReadAnswer _
  | .preferredLaneAnswer | .swapReport | .agentReserveGrantAnswer | .agentEnqueueAnswer | .handoffAnswer
  | .watchReturned | .sessionTimerExpiry | .pacingExpiry => true

end Sys2Proof
end

