-- ==== Sys2Proof/Safety.lean ====
section
/-! DEFINITION. Safety.lean: the words the claims use: where an event is taken, what a request's row is, and the laws that
hold of the part's state in every run ("This is a law of the device"). -/

namespace Sys2Proof

/-- The block that takes a command's event (00, "Events"); a power-on reset is taken by the whole part. -/
def Instr.home : Instr → Option Block
  | .powerOnReset _ _ _ _ => none
  | .linkChange p _ => some (.receiver p)
  | .frameStart p _ => some (.receiver p)
  | .frameEnd p _ => some (.receiver p)
  | .linkStateRead p => some (.receiver p)
  | .receiverCounterRead p => some (.receiver p)
  | .receiverFullRestart p => some (.receiver p)
  | .classify _ | .classifierLinkChange _ | .classifierShadowCreate | .classifierShadowDiscard | .recordWrite
  | .removal | .emptyBankWrite | .deviceWrite | .recordRead | .classifierEntryRead _ | .nextRead _
  | .classifierSwap | .classifierCounterRead | .classifierTrafficRestart | .classifierFullRestart => some .classifier
  | .takeDirectoryArrival | .takeUnknownArrival | .takeManagementArrival | .mergeGrantAnswer
  | .mergePlacementAnswer | .managementPlacementAnswer | .releaseEnqueueAnswer _ | .silenceExpiry _
  | .holdTimerExpiry _ | .mergeReconciliationRequest | .mergeReconcileKey | .holdStateRead | .mergeCounterRead
  | .mergeTrafficRestart | .mergeFullRestart => some .merge
  | .grantRequest _ | .reserveGrantRequest _ | .refillExpiry | .copyAdd _ | .referenceRelease _ | .releaseWatch
  | .admissionShadowCreate | .admissionShadowDiscard | .policerWrite | .poolWrite | .admissionEntryRead _ _
  | .admissionStateRead | .admissionCounterRead | .counterEntryCreate _ _ | .counterEntryDelete _ _
  | .admissionSwap | .admissionTrafficRestart | .admissionFullRestart => some .admission
  | .replicatorReconciliationRequest | .replicatorReconcileKey | .replicatorLinkChange _ | .takeDirectoryDeparture
  | .takeUnknownDeparture | .takeHandoff | .replicatorGrantAnswer | .replicatorReserveGrantAnswer
  | .replicatorEnqueueAnswer _ | .replicatorCounterRead | .replicatorTrafficRestart | .replicatorFullRestart => some .replicator
  | .enqueueRequest _ | .copyAddAnswer _ | .transmitCompletion _ _ | .egressLinkDown _ | .egressLinkUp _
  | .egressShadowCreate | .egressShadowDiscard | .queueWrite | .egressEntryRead _ _ _ | .egressSwap
  | .egressCounterRead | .egressTrafficRestart | .egressFullRestart => some .egress
  | .timeCountTick | .requestPlacement | .unknownKindRequest | .openSession | .closeSession | .putDirectory
  | .putPolicers | .putPools | .putQueues | .putDevice | .dropKeys | .clearBank | .abandon | .checkShadow | .commit
  | .readDirectory | .readPolicers | .readPools | .readQueues | .readDevice | .readNext | .readStatsKey
  | .readStatsPort | .readStatsDevice | .status | .restartTraffic | .restartFull | .shadowCreateAnswer _
  | .shadowWriteAnswer _ | .shadowDiscardAnswer _ | .ownerReadAnswer _ | .checkReadAnswer _ | .preferredLaneAnswer
  | .swapReport | .swapDone _ | .reconciliationDone _ | .agentReserveGrantAnswer | .agentEnqueueAnswer
  | .handoffAnswer | .watchReturned | .restartDone _ | .sessionTimerExpiry | .noticeRaise _ _ | .pacingExpiry => some .agent

end Sys2Proof

namespace Sys2Proof.Machine

/-! ## What the claims say of a step -/

/-- `s` once a message has been taken, `rest` being the others still on their way, and `ms` have been sent. -/
def State.took (s : State) (rest ms : List Msg) : State := { s with net := rest ++ ms }

/-- The row of spec/opcode_table.json that a well-formed request belongs to. -/
def rowOf : Req → RequestRow
  | .openSession => .openSession
  | .closeSession => .closeSession
  | .putDirectory _ => .putDirectory
  | .putPolicers _ => .putPolicers
  | .putPools _ => .putPools
  | .putQueues _ => .putQueues
  | .putDevice _ => .putDevice
  | .dropKeys _ => .dropKeys
  | .clearBank => .clearBank
  | .abandon => .abandon
  | .checkShadow => .checkShadow
  | .commit _ => .commit
  | .readDirectory _ _ => .readDirectory
  | .readPolicer _ _ => .readPolicers
  | .readPool _ _ => .readPools
  | .readQueue _ _ _ => .readQueues
  | .readDevice _ _ => .readDevice
  | .readNext _ _ _ => .readNext
  | .statsKey _ _ => .readStatsKey
  | .statsPort _ _ => .readStatsPort
  | .statsDevice _ => .readStatsDevice
  | .status => .status
  | .restart .traffic => .restartTraffic
  | .restart .full => .restartFull

/-- The command that takes a request of a row. -/
def RequestRow.instr : RequestRow → Instr
  | .unknownKind => .unknownKindRequest
  | .openSession => .openSession
  | .closeSession => .closeSession
  | .putDirectory => .putDirectory
  | .putPolicers => .putPolicers
  | .putPools => .putPools
  | .putQueues => .putQueues
  | .putDevice => .putDevice
  | .dropKeys => .dropKeys
  | .clearBank => .clearBank
  | .abandon => .abandon
  | .checkShadow => .checkShadow
  | .commit => .commit
  | .readDirectory => .readDirectory
  | .readPolicers => .readPolicers
  | .readPools => .readPools
  | .readQueues => .readQueues
  | .readDevice => .readDevice
  | .readNext => .readNext
  | .readStatsKey => .readStatsKey
  | .readStatsPort => .readStatsPort
  | .readStatsDevice => .readStatsDevice
  | .status => .status
  | .restartTraffic => .restartTraffic
  | .restartFull => .restartFull

/-- The generation that an entry of the merge input queue is stamped with (R30). -/
def MergeEntry.gen : MergeEntry → Gen
  | .directory a => a.gen
  | .management a => a.gen
  | .unknown a => a.gen

/-- The command that takes an entry of the merge input queue (R50). -/
def MergeEntry.take : MergeEntry → Instr
  | .directory _ => .takeDirectoryArrival
  | .management _ => .takeManagementArrival
  | .unknown _ => .takeUnknownArrival

/-- The agent may take its head entry `e`, whose payload is `p`, with `rest` behind it (R155, R157). -/
def State.headRequest (s : State) (e : RequestEntry) (rest : List RequestEntry) (p : List Byte) : Prop :=
  s.agt.queue = e :: rest ∧ framePayload e.buf = p ∧ s.agt.takesRequest s.clock.millis = true

/-- With no request in hand, the agent takes `a` of a message that `sel` picks: of the earliest deferred one, and with none
deferred of the earliest one on its way; `b` is the state without that message (R157, log 6). -/
def State.agentTakes {α : Type} (s : State) (sel : Msg → Option α) (a : α) (b : State) : Prop :=
  s.agt.hand = none ∧
    ((∃ rest, takeFirst sel s.agt.deferred = some (a, rest) ∧ b = { s with agt := { s.agt with deferred := rest } }) ∨
      (takeFirst sel s.agt.deferred = none ∧ ∃ rest, takeFirst sel s.net = some (a, rest) ∧ b = { s with net := rest }))

/-- No message that `sel` picks is deferred at the agent or on its way. -/
def State.agentLacks {α : Type} (s : State) (sel : Msg → Option α) : Prop :=
  (∀ m ∈ s.agt.deferred, sel m = none) ∧ ∀ m ∈ s.net, sel m = none

/-- The state with a message deferred at the agent, the messages on its way then being `rest` (R157, log 6). -/
def State.defers (s : State) (m : Msg) (rest : List Msg) : State :=
  { s with net := rest, agt := { s.agt with deferred := s.agt.deferred ++ [m] } }

/-- The head request is `r`, well formed, and no retransmission (R13, R158). -/
def State.headIs (s : State) (e : RequestEntry) (rest : List RequestEntry) (p : List Byte) (r : Req) : Prop :=
  s.headRequest e rest p ∧ s.agt.retransmission p = .fresh ∧ parseRequest p = .ok r

/-- The holder's token is that of the request `p`, and the agent is in SESSION (R160). -/
def Agent.inSession (a : Agent) (p : List Byte) : Prop := a.mode = .session ∧ a.holds (reqToken p) = true

/-- The session at the take of a request whose payload is `p`: in SESSION, a token that is whole and the holder's restarts the
session timer with the full session timeout (R162). -/
def Agent.sessionAt (a : Agent) (p : List Byte) (now : Nat) : Option Session :=
  a.session.map fun x =>
    if a.mode = .session ∧ 4 ≤ p.length ∧ reqToken p = x.token then
      { token := x.token, timer := some (now + 1000 * a.params.sessionTimeout) }
    else x

/-- The state in which the request `e` has been taken into hand with its handling at `g`: it has left the queue, its payload is
in hand, and the session timer has restarted where R162 says so (R155, R162). -/
def State.handling (s : State) (e : RequestEntry) (rest : List RequestEntry) (g : HandStage) : State :=
  { s with
    agt :=
      { s.agt with
        queue := rest, expiryDeferred := false, session := s.agt.sessionAt (framePayload e.buf) s.clock.millis,
        hand := some { side := e.side, payload := framePayload e.buf, stage := g } } }

/-- The request `e`, in hand in `s`, answered (R15, R165, R166). -/
def State.replies (s : State) (e : RequestEntry) (st : Status) (detail : Nat) (results : List Byte) : State :=
  s.reply e.side (reqToken (framePayload e.buf)) (reqNumber (framePayload e.buf)) (reqKindCode (framePayload e.buf)) st
    detail results false

/-- The frame reference that a granted answer, taken by the command `c`, names (R61, R124, R126, R128, R167). -/
def State.granted (s : State) (c : Instr) : Option FrameRef :=
  match c with
  | .mergeGrantAnswer => match takeFirst (selGrantAns .merge) s.net with
    | some ((_, .granted ref), _) => some ref
    | _ => none
  | .replicatorGrantAnswer => match takeFirst (selGrantAns .replicator) s.net with
    | some ((_, .granted ref), _) => some ref
    | _ => none
  | .replicatorReserveGrantAnswer => match takeFirst (selReserveAns .replicator) s.net with
    | some ((_, some ref), _) => some ref
    | _ => none
  | .agentReserveGrantAnswer => match takeFirst (selReserveAns .agent) s.net with
    | some ((_, some ref), _) => some ref
    | _ => none
  | _ => none

/-- The merge engine's handling of the entry in hand over: of the events deferred past it, those still due wait (R51). -/
def State.handled (s : State) : State :=
  { s with mrg := { s.mrg with hand := none, deferred := s.mrg.deferred.filter s.mergeWaits } }

/-- A check under way once the answer `a` to its read `r` has been entered (R188). -/
def CheckWork.entered (w : CheckWork) (r : CheckRead) (a : ReadAnswer) : CheckWork :=
  let w := { w with waiting := w.waiting.erase r }
  match a with
  | .records rs => (w.addRecords rs).1
  | _ => w.addAnswer a

/-! ## Laws of the state -/

/-- The three input queues hold at most 16, 8 and 4 entries (R50, R120, R155). -/
structure State.QueuesOk (s : State) : Prop where
  merge : s.mrg.queue.length ≤ 16
  replicator : s.rep.queue.length ≤ 8
  requests : s.agt.queue.length ≤ 4

/-- Each bank holds at most 384 records in strictly ascending key order (R23). -/
structure Classifier.BanksOk (c : Classifier) : Prop where
  active : bankOk c.bank = true
  shadow : ∀ sh, c.shadow = some sh → bankOk sh.bank = true

/-- Every policer's credit lies between 0 and its ceiling (R97). -/
def Admission.CreditsOk (a : Admission) : Prop := ∀ i : Fin 64, (a.policers[i]).credit ≤ (a.policers[i]).ceiling

/-- Blocks of the frame records drawn from a source. -/
def Admission.drawn (a : Admission) (src : Source) : Nat :=
  ((a.records.filter fun r => r.source == src).map (·.blocks)).sum

/-- The accounts of frame memory (R101 to R103, R107, R109): each block is free or held by one record of its source, the
reserve is never out of reach of the agent, and no record outlives its references. -/
structure Admission.MemoryOk (a : Admission) : Prop where
  total : a.free + a.inUse.toList.sum + a.reserve = 2048
  pools : ∀ i : Fin 8, a.inUse[i] = a.drawn (.pool i)
  reserveDrawn : a.reserve = a.drawn .reserve
  reserveMost : a.reserve ≤ 16
  reserveFree : 16 ≤ a.free + a.reserve
  ids : (a.records.map (·.id)).Nodup
  named : ∀ r ∈ a.records, r.id < a.nextId
  counted : ∀ r ∈ a.records, 1 ≤ r.count

/-- A port of the egress unit keeps within its 160 descriptor slots, transmits only when UP, and never idles when UP with a
PLACED copy at the head of a queue (R139, R143, R146). -/
structure PortEgress.Ok (x : PortEgress) : Prop where
  slots : x.slots ≤ 160
  linkUp : x.tx ≠ none → x.link = .up
  busy : x.link = .up → x.tx = none → choose x.queues = none

/-- All three ports keep the law. -/
def Egress.Ok (g : Egress) : Prop := ∀ p, (g.ports.get p).Ok

/-- The notice list holds at most one entry of each kind, with a count of 1 to 65535 (R210). -/
structure Agent.NoticesOk (a : Agent) : Prop where
  kinds : (a.notices.map (·.kind)).Nodup
  counts : ∀ n ∈ a.notices, 1 ≤ n.count ∧ n.count ≤ 65535

/-- Each key has one stream at the merge engine and one at the replicator, and the hold table is not overdrawn (R46, R78,
R118). -/
structure State.StreamsOk (s : State) : Prop where
  inbound : (s.mrg.streams.map (·.key)).Nodup
  outbound : (s.rep.streams.map (·.key)).Nodup
  holds : s.mrg.holdInUse ≤ 1024

/-- The place of a sequence in the window of width `w` below the lead: 0 at its bottom, `w - 1` at the lead (R46, R47). -/
def Tracking.place (t : Tracking) (w : Nat) (q : Seq) : Nat := seqAhead q (t.lead - BitVec.ofNat 16 w + 1)

/-- The law of R76 and R77 for a TRACKING IN-ORDER record with window `w`: N lies between the window bottom and one above the
lead; each position below N is ACCEPTED or WAIVED, each other is OPEN or holds a frame; every held frame sits at an ACCEPTED
position above N and not above the lead; the hold list ascends from N, with at most `w - 1` frames; and the hold timer runs to
the earliest deadline (R86). -/
structure Tracking.OrderOk (t : Tracking) (o : Ordered) (w : Nat) : Prop where
  next : t.place w o.nxt ≤ w
  below : ∀ i < w, w - 1 - i < t.place w o.nxt → t.window[i]? ≠ some .vacant
  above : ∀ i < w, t.place w o.nxt ≤ w - 1 - i →
    t.window[i]? = some .vacant ∨
      (t.window[i]? = some .accepted ∧ ∃ h ∈ o.held, h.seq = t.lead - BitVec.ofNat 16 i)
  held : ∀ h ∈ o.held, t.place w o.nxt < t.place w h.seq ∧ t.place w h.seq < w ∧
    t.window[w - 1 - t.place w h.seq]? = some .accepted
  ascends : (o.held.map fun h => seqAhead h.seq o.nxt).Pairwise (· < ·)
  most : o.held.length ≤ w - 1
  timer : o.timer = earliest o.held

/-- The laws of R46, R76 and R77 for one inbound stream, with the ranges of its window (R49) and of its consecutive-rogue
count. -/
structure Stream.Lawful (st : Stream) : Prop where
  width : 2 ≤ st.params.window ∧ st.params.window ≤ 128
  rogue : st.recov.rogue ≤ 255
  shape : st.recov.shapeOk st.params.window st.params.mode.isInOrder = true
  order : ∀ t o, st.recov.tracking = some t → t.ordered = some o → t.OrderOk o st.params.window

/-- The candidate in hand is still what its stream's record makes of it: no event changes the record before the handling ends
(R51, R61), and a candidate to be held is placed without an enqueue (R80). -/
def Merge.HandOk (m : Merge) : Prop :=
  ∀ a v ref st, m.hand = some (.directory a v ref) → m.find a.key = some st →
    (ref.isSome = true → v ≠ .hold) ∧
      (st.recov.tracking = none → v = .takeAny) ∧
      (∀ t, st.recov.tracking = some t → t.judge st.params.window a.seq = .candidate v)

/-- Every recovery record keeps its laws, the management record with window 32 in PASS-FIRST (R46, R71, R76, R77). -/
structure Merge.RecoveryOk (m : Merge) : Prop where
  keys : (m.streams.map (·.key)).Nodup
  streams : ∀ st ∈ m.streams, st.Lawful
  management : m.mgmt.rogue ≤ 255 ∧ m.mgmt.shapeOk 32 false = true
  hand : m.HandOk

/-- What R42 says of an OTHER-CHANGED entry: the mode and W of its key's stream stand. -/
def Merge.ChangesFit (m : Merge) : Prop :=
  ∀ e ∈ m.pending, ∀ r p st, e.cat = .otherChanged r → inParamsOf r = some p → m.find e.key = some st →
    p.window = st.params.window ∧ p.mode.isInOrder = st.params.mode.isInOrder

/-- The directory record that a change-list entry carries (R42). -/
def ChangeEntry.record (e : ChangeEntry) : List DirRecord :=
  match e.cat with
  | .removed => []
  | .added r => [r]
  | .recoveryChanged r => [r]
  | .otherChanged r => [r]

/-- The directory records that a message carries towards a bank or a parameter copy. -/
def Msg.records : Msg → List DirRecord
  | .recordWrite rs => rs
  | .swapReport (some r) => r.changes.flatMap ChangeEntry.record
  | .reconcile _ _ cs _ => cs.flatMap ChangeEntry.record
  | _ => []

/-- The directory records of the staging request in hand that waits for its shadow (R180). -/
def Agent.handRecords (a : Agent) : List DirRecord :=
  match a.hand with
  | some { side := _, payload := _, stage := .creating (.putDirectory rs) _ } => rs
  | _ => []

/-- Every directory record in the part, from the request that stages it to the parameter copies, has the values that R21 admits
(R13, R182). -/
structure State.RecordsOk (s : State) : Prop where
  active : ∀ r ∈ s.cls.bank, r.wf = true
  shadow : ∀ sh, s.cls.shadow = some sh → ∀ r ∈ sh.bank, r.wf = true
  hand : ∀ r ∈ s.agt.handRecords, r.wf = true
  sent : ∀ m ∈ s.net ++ s.agt.deferred, ∀ r ∈ m.records, r.wf = true
  pending : ∀ e ∈ s.mrg.pending ++ s.rep.pending, ∀ r ∈ e.record, r.wf = true

/-- The law of R191 for the active tables: no own key in the active bank, active quotas that sum to 2032 at most, active limits
that sum to 160 at most at each port. -/
structure State.ActiveOk (s : State) : Prop where
  keys : ∀ r ∈ s.cls.bank, r.key ≠ ownRequestKey s.node ∧ r.key ≠ ownReplyKey s.node
  quotas : s.adm.quotas.toList.sum ≤ 2032
  limits : ∀ p, (allClasses.map fun c => (s.egr.ports.get p).limits.get c).sum ≤ 160

/-- A shadow whose swap is asked for keeps the same law: it passed the check (R189, R193). -/
structure State.SwapsChecked (s : State) : Prop where
  keys : .swap .classifier ∈ s.net → ∀ sh, s.cls.shadow = some sh →
    ∀ r ∈ sh.bank, r.key ≠ ownRequestKey s.node ∧ r.key ≠ ownReplyKey s.node
  quotas : .swap .admission ∈ s.net → ∀ sh, s.adm.shadow = some sh → sh.quotas.toList.sum ≤ 2032
  limits : .swap .egress ∈ s.net → ∀ v, s.egr.shadow = some v → ∀ p, (allClasses.map fun c => (v.get p).get c).sum ≤ 160

/-- What a restart under way keeps: a TRAFFIC restart its session, a FULL restart no session and no shadow once it has taken
effect (R156, R177, R178). -/
def Agent.restartOk (a : Agent) (w : RestartWork) : Prop :=
  match w.kind, w.phase with
  | .traffic, _ => a.session.isSome = true
  | .full, .replying => True
  | .full, _ => a.session = none ∧ a.shadow = .absent

/-- What goes with each agent state (R156, R161, R179): the session, the shadow status and the operation under way. -/
def Agent.modeOk (a : Agent) : Prop :=
  match a.mode with
  | .noSession =>
    a.session = none ∧ a.shadow = .absent ∧ a.progress = none ∧ a.check = none ∧ a.commit = none ∧ a.restart = none
  | .session =>
    a.session.isSome = true ∧ a.progress = none ∧ a.check = none ∧ a.commit = none ∧ a.restart = none
  | .checking =>
    a.session.isSome = true ∧ a.progress.isSome = true ∧ a.check.isSome = true ∧ a.commit = none ∧ a.restart = none ∧
      (∃ rem, a.shadow = .dirty rem)
  | .committing =>
    a.session.isSome = true ∧ a.progress.isSome = true ∧ a.check = none ∧ a.commit.isSome = true ∧ a.restart = none ∧
      (∃ rem, a.shadow = .checked rem)
  | .restarting =>
    a.progress.isSome = true ∧ a.check = none ∧ a.commit = none ∧ (∃ w, a.restart = some w ∧ a.restartOk w)

/-- A request that stages or abandons is in hand in SESSION alone (R157, R160). -/
def Agent.handOk (a : Agent) : Prop :=
  (∀ h, a.hand = some h → (∃ r w, h.stage = .creating r w) ∨ (∃ f, h.stage = .writing f) → a.mode = .session) ∧
  (∀ d, a.discard = some d → d.why = .abandoning → a.mode = .session)

/-- The agent's law: at most one session, and each agent state with what goes with it (R156, R161, R179). -/
structure Agent.Ok (a : Agent) : Prop where
  mode : a.modeOk
  hand : a.handOk

/-- Every law at once. -/
structure State.Lawful (s : State) : Prop where
  queues : s.QueuesOk
  banks : s.cls.BanksOk
  credits : s.adm.CreditsOk
  memory : s.adm.MemoryOk
  egress : s.egr.Ok
  notices : s.agt.NoticesOk
  streams : s.StreamsOk
  agent : s.agt.Ok
  recovery : s.mrg.RecoveryOk
  records : s.RecordsOk
  active : s.ActiveOk

/-! ## Configuration that only swaps and resets change -/

/-- The active configuration of the policers, without their credits (R97). -/
def Admission.policerConfig (a : Admission) : Vector PolicerCfg 64 := a.policers.map Policer.cfg

/-- The commands that change the active directory bank, device parameters or generation (R28, R41, R44). -/
def classifierChange (c : Instr) : Bool :=
  match c with
  | .powerOnReset _ _ _ _ => true
  | .classifierSwap => true
  | .classifierFullRestart => true
  | _ => false

/-- The commands that change the policers' configuration or the quotas (R97, R102, R113, R116). -/
def admissionChange (c : Instr) : Bool :=
  match c with
  | .powerOnReset _ _ _ _ => true
  | .admissionSwap => true
  | .admissionFullRestart => true
  | _ => false

/-- The commands that change the active limits (R149, R151). -/
def limitChange (c : Instr) : Bool :=
  match c with
  | .powerOnReset _ _ _ _ => true
  | .egressSwap => true
  | .egressFullRestart => true
  | _ => false

end Sys2Proof.Machine
end

