-- ==== Sys2Proof/Certificates/Slice0/Obligations.lean ====
section
/-! DEFINITION. Obligations.lean: the statements about the model, for the provers. -/

open Sys2Proof Sys2Proof.Machine

/-! ## The part as a whole -/

/-- A step is the front command's meaning on the state with the queue's rest; with no command waiting the part idles (log 2,
the model's choice). -/
def Obligations.StepRunsTheFrontCommand : Prop :=
  (∀ (s : State) (c : Instr) (cs : List Instr), s.pending = c :: cs → step s = exec c { s with pending := cs }) ∧
  (∀ s : State, s.pending = [] → step s = .next s)

/-- Every command has an outcome: no event of the part stops it (00, "Events": an event is taken whole). That a command whose
event cannot occur has one too (log 1), and that the commands waiting outside the part stay, at a power-on reset as well (log
24), are the model's choices. -/
def Obligations.EveryCommandAnswersNext : Prop :=
  ∀ (c : Instr) (s : State), ∃ t, exec c s = .next t ∧ t.pending = s.pending

/-- Each block's state is changed by the events that block takes. The manual's exceptions: a classification clears the frame it
takes from its receiver and places it in one of three input queues (R29, R30, R136); the agent's events put a frame in the
replicator's handoff and change nothing else there (R168; that the slot is the replicator's is log 12, the model's choice); a
granted requester writes the frame into the blocks of the record its answer names, and changes nothing else at the admission
unit (R61, R124, R128, R167). One more is the model's choice (log 28): when the RESTART's own reply is refused at T, or is sent
with no copy placed, the releases of its frame still on their way are taken within the answer's event, before the restart. -/
def Obligations.BlocksChangeAtTheirOwnEvents : Prop :=
  ∀ (c : Instr) (s t : State), c.home.isSome = true → exec c s = .next t →
    (t.node = s.node ∧ t.pins.straps = s.pins.straps ∧ ((∀ p st, c ≠ .linkChange p st) → t.pins = s.pins)) ∧
    ((c ≠ .refillExpiry → t.clock.tens = s.clock.tens) ∧ (c ≠ .timeCountTick → t.clock.millis = s.clock.millis)) ∧
    (∀ p, c.home ≠ some (.receiver p) → c ≠ .classify p → t.rx.get p = s.rx.get p) ∧
    (c.home ≠ some .classifier → t.cls = s.cls) ∧
    (c.home ≠ some .merge → (∀ p, c ≠ .classify p) → t.mrg = s.mrg) ∧
    (c.home ≠ some .replicator → c.home ≠ some .agent → (∀ p, c ≠ .classify p) → t.rep = s.rep) ∧
    (c.home = some .agent → t.rep = { s.rep with handoff := t.rep.handoff }) ∧
    (c.home ≠ some .egress → t.egr = s.egr) ∧
    (c.home ≠ some .agent → (∀ p, c ≠ .classify p) → t.agt = s.agt) ∧
    (∀ p, c = .classify p →
      t.rx.get p = { s.rx.get p with awaiting := none } ∧ t.mrg = { s.mrg with queue := t.mrg.queue } ∧
        t.rep = { s.rep with queue := t.rep.queue } ∧ t.agt = { s.agt with queue := t.agt.queue }) ∧
    (c.home ≠ some .admission → c ≠ .agentEnqueueAnswer → c ≠ .handoffAnswer →
      t.adm = s.adm ∨ ∃ ref bytes, s.granted c = some ref ∧
        t.adm =
          { s.adm with
            records := s.adm.records.map fun r => if r.id = ref.id then { r with bytes := bytes } else r }) ∧
    (c = .agentEnqueueAnswer →
      t.adm = s.adm ∨ ∃ o ref r rest, s.agt.output = some o ∧ o.restart = true ∧
        takeFirst selOutputAns s.net = some ((ref, r), rest) ∧ r ≠ .placed ∧
        t.adm = (State.takeReleases (s.took rest [.release ref]) ref).adm) ∧
    (c = .handoffAnswer →
      t.adm = s.adm ∨ ∃ o ref rest, s.agt.output = some o ∧ o.restart = true ∧
        takeFirst selHandoffAns s.net = some (.sent ref 0, rest) ∧
        t.adm = (State.takeReleases (s.took rest []) ref).adm)

/-- The active configuration changes at swaps, FULL restarts and power-on resets alone: the generation rises by exactly one
at each swap of the classifier and is set to 0 otherwise (R28); bank and parameters (R23, R27), policers and quotas (R97,
R102) and limits (R149) are in force from one such event to the next. While a shadow whose swap is asked for keeps the
limits that the check tests, every step keeps the active configuration within them: no own key, quotas of 2032 in all, 160 of
limits at each port; and a swap is asked for by a commit alone, COMMITTING is entered with a CHECKED shadow alone, and a shadow
becomes CHECKED alone when the answer taken, which a deferred one precedes (log 6), is the last of its check and the check has
no failure (R190 to R193). -/
def Obligations.ConfigurationChangesAtSwapsAndResets : Prop :=
  (∀ s t : State, s.ActiveOk → s.SwapsChecked → step s = .next t → t.ActiveOk) ∧
  (∀ (c : Instr) (s t : State), exec c s = .next t →
    (∀ b, .swap b ∈ t.net → .swap b ∈ s.net ∨ (c = .preferredLaneAnswer ∧ s.agt.commit.isSome = true)) ∧
    (t.agt.mode = .committing → s.agt.mode = .committing ∨ ∃ rem, t.agt.shadow = .checked rem) ∧
    (∀ rem, t.agt.shadow = .checked rem →
      s.agt.shadow = .checked rem ∨ ∃ r a rest w, c = .checkReadAnswer r ∧
        (takeFirst (selCheckAns r) s.agt.deferred = some (a, rest) ∨
          takeFirst (selCheckAns r) s.agt.deferred = none ∧ takeFirst (selCheckAns r) s.net = some (a, rest)) ∧
        s.agt.check.map (fun x => x.entered r a) = some w ∧ w.waiting = [] ∧ w.fault s.node = none)) ∧
  ∀ (c : Instr) (s t : State), exec c s = .next t →
    (classifierChange c = false → t.cls.bank = s.cls.bank ∧ t.cls.params = s.cls.params) ∧
    (t.cls.gen = s.cls.gen ∨ (c = .classifierSwap ∧ t.cls.gen = s.cls.gen + 1) ∨
      ((c = .classifierFullRestart ∨ ∃ x l0 l1 lt, c = .powerOnReset x l0 l1 lt) ∧ t.cls.gen = 0)) ∧
    (admissionChange c = false → t.adm.policerConfig = s.adm.policerConfig ∧ t.adm.quotas = s.adm.quotas) ∧
    (limitChange c = false → t.egr.limits = s.egr.limits)

/-- A message is taken first in, first out among those its event picks, the others keeping their order (00, "Events"; log 8);
an event whose message is not on its way changes nothing (log 1, the model's choice). An entry enters the merge or the
replicator input queue at its tail while there is room; otherwise the frame is an input-overrun of its port (R40, R50,
R120). -/
def Obligations.MessagesAndEntriesKeepTheirOrder : Prop :=
  (∀ (α : Type) (sel : Msg → Option α) (a : α) (ms rest : List Msg),
    takeFirst sel ms = some (a, rest) ↔
      ∃ pre m post, ms = pre ++ m :: post ∧ (∀ x ∈ pre, sel x = none) ∧ sel m = some a ∧ rest = pre ++ post) ∧
  (∀ (α : Type) (sel : Msg → Option α) (k : α → State → State) (s : State),
    ((∀ m ∈ s.net, sel m = none) → s.onMsg sel k = .next s) ∧
    (∀ a rest, takeFirst sel s.net = some (a, rest) → s.onMsg sel k = .next (k a { s with net := rest }))) ∧
  (∀ (s : State) (p : Port) (e : MergeEntry),
    s.toMerge p e =
      if s.mrg.queue.length < 16 then { s with mrg := { s.mrg with queue := s.mrg.queue ++ [e] } }
      else { s with cls := { s.cls with overrun := s.cls.overrun.set p (bump (s.cls.overrun.get p)) } }) ∧
  (∀ (s : State) (e : RepEntry),
    s.toReplicator e =
      if s.rep.queue.length < 8 then { s with rep := { s.rep with queue := s.rep.queue ++ [e] } }
      else { s with cls := { s.cls with overrun := { s.cls.overrun with t := bump s.cls.overrun.t } } })

/-! ## Laws of the device -/

/-- The part right after reset keeps every law, and so does the part after any power-on reset. -/
def Obligations.ResetIsLawful : Prop :=
  State.reset.Lawful ∧ ∀ straps links, (State.powerOn straps links).Lawful

/-- The input queues never hold more than 16, 8 and 4 entries (R50, R120, R155), so the store of 37 staging buffers always has
the buffer that a frame start takes (R133, R134). -/
def Obligations.StepKeepsQueueBounds : Prop :=
  ∀ s t : State, s.QueuesOk → step s = .next t → t.QueuesOk ∧ t.stagingInUse ≤ 37

/-- The law of R23: no bank ever holds more than 384 records or records out of strictly ascending key order. -/
def Obligations.StepKeepsBankOrder : Prop :=
  ∀ s t : State, s.cls.BanksOk → step s = .next t → t.cls.BanksOk

/-- The law of R97: every policer's credit lies between 0 and its ceiling. -/
def Obligations.StepKeepsCreditsWithinCeilings : Prop :=
  ∀ s t : State, s.adm.CreditsOk → step s = .next t → t.adm.CreditsOk

/-- The accounts of frame memory balance at every step: 2048 blocks in all, each pool's and the reserve's in-use count the
blocks of its records, the reserve within 16 and always available, each record referred to (R101 to R103, R107, R109). -/
def Obligations.StepKeepsFrameMemoryAccounts : Prop :=
  ∀ s t : State, s.adm.MemoryOk → step s = .next t → t.adm.MemoryOk

/-- At every step a port keeps within its 160 descriptor slots, transmits only when UP, and never idles when UP with a
PLACED copy at the head of a queue (R139, R143, R146). -/
def Obligations.StepKeepsPortsWithinSlotsAndBusy : Prop :=
  ∀ s t : State, s.egr.Ok → step s = .next t → t.egr.Ok

/-- The notice list keeps at most one entry of each kind, each counting 1 to 65535 occurrences (R210). -/
def Obligations.StepKeepsNoticeList : Prop :=
  ∀ s t : State, s.agt.NoticesOk → step s = .next t → t.agt.NoticesOk

/-- Each key keeps one stream at the merge engine and one at the replicator, and at most 1024 frames are held (R46, R78,
R118). -/
def Obligations.StepKeepsStreamsAndHoldTable : Prop :=
  ∀ s t : State, s.StreamsOk → step s = .next t → t.StreamsOk

/-- The agent's states keep what goes with them: a session in SESSION, CHECKING and COMMITTING, none and an ABSENT shadow in
NO-SESSION, and one operation under way where the state says so (R156, R161, R179). -/
def Obligations.StepKeepsSessionLaw : Prop :=
  ∀ s t : State, s.agt.Ok → step s = .next t → t.agt.Ok

/-! ## Power-on reset and receivers -/

/-- A power-on reset latches the straps and the link indications (R36, R131, R138, R151, R154) and gives every part of every block
its reset value (R44, R74, R116, R131, R138, R151, R177, R203, R209, R214). The model's choices: the commands waiting outside
the part stay and nothing is left between blocks (log 24); the model's clocks start at 0 (log 3); its own numbers start at 0
but for that of the next transmission, which runs on (log 7). -/
def Obligations.PowerOnResetLatchesAndClears : Prop :=
  ∀ (x : Byte) (l0 l1 lt : Link) (s : State),
    let rx (st : Link) : Receiver :=
      { link := st, reception := none, awaiting := none, received := 0, badCheck := 0, badLength := 0, overrun := 0 }
    let port (st : Link) : PortEgress :=
      { link := st, queues := ⟨[], [], [], []⟩, limits := ⟨40, 40, 40, 40⟩, tx := none, transmitted := 0, aborted := 0,
        flushed := 0 }
    exec (.powerOnReset x l0 l1 lt) s = .next
      { pins := { straps := x, link := ⟨l0, l1, lt⟩ }, node := x, clock := { tens := 0, millis := 0 },
        rx := ⟨rx l0, rx l1, rx lt⟩,
        cls :=
          { bank := [], gen := 0, shadow := none, links := ⟨l0, l1⟩, overrun := ⟨0, 0, 0⟩,
            params :=
              { unknownInbound := .preferredLane, preferredLane := .l0, unknownOutbound := .discard, unknownPool := 0,
                noticeDestination := .off, noticeInterval := 100, sessionTimeout := 30, managementClass := .c3 },
            counts :=
              { badHeader := 0, noTrail := 0, strayTrail := 0, crossed := ⟨0, 0⟩, wrongDirection := 0, unknownInbound := 0,
                unknownOutbound := 0, requestOverrun := 0 } },
        mrg :=
          { streams := [], gen := 0, mgmt := { born := 0, rogue := 0, tracking := none },
            mgmtCounts :=
              { passed := 0, duplicate := 0, late := 0, outOfWindow := 0, lost := 0, resets := 0, withdrawnHeld := 0,
                noHold := 0, queueFull := 0 },
            withdrawn := 0, queue := [], hand := none, handNo := 0, deferred := [], pending := [], bornNo := 0 },
        adm :=
          { policers := .replicate 64 { enabled := false, ceiling := 64, refill := 1, credit := 0 },
            quotas := #v[2032, 0, 0, 0, 0, 0, 0, 0], inUse := #v[0, 0, 0, 0, 0, 0, 0, 0], reserve := 0, free := 2048,
            records := [], nextId := 0, restarts := 0, shadow := none, counts := [], replyNoBuffer := 0 },
        rep :=
          { streams := [], gen := 0, pending := [], preferred := .l0, links := ⟨l0, l1⟩,
            reply := { nxt := 0, restart := true }, replyCounts := { sent := 0, refused := ⟨0, 0⟩ }, withdrawn := 0,
            unsent := 0, queue := [], handoff := none, hand := none, handNo := 0, requestWaiting := false,
            late := [] },
        egr := { ports := ⟨port l0, port l1, port lt⟩, shadow := none, restarts := 0, nextPlace := 0, nextTx := s.egr.nextTx },
        agt :=
          { mode := .noSession, session := none, shadow := .absent, progress := none, check := none, commit := none,
            restart := none, discard := none, cache := none, queue := [], hand := none, ready := none, output := none,
            deferred := [], expiryDeferred := false, notices := [], handed := none, pacing := 100,
            params :=
              { noticeDestination := .off, noticeInterval := 100, sessionTimeout := 30, managementClass := .c3 },
            timeCount := 0, unsent := 0 },
        net := [], pending := s.pending }

/-- A change of a port's link indication is one event at its receiver: the link state follows, a reception under way ends
uncounted at DOWN, and the link-change events and a lane's LANE-CHANGE raise are sent (R137). -/
def Obligations.LinkChangeReachesTheOtherBlocks : Prop :=
  ∀ (p : Port) (st : Link) (s : State), (s.rx.get p).link ≠ st →
    exec (.linkChange p st) s = .next
      { s with
        pins := { s.pins with link := s.pins.link.set p st },
        rx := s.rx.set p
          { s.rx.get p with link := st, reception := match st with | .down => none | .up => (s.rx.get p).reception },
        net := s.net ++ (match p with
          | .l0 => [.linkClassifier .l0 st, .linkReplicator .l0 st, .linkEgress .l0 st,
              .notice .laneChange (BitVec.ofNat 32 (match st with | .down => 0 | .up => 256))]
          | .l1 => [.linkClassifier .l1 st, .linkReplicator .l1 st, .linkEgress .l1 st,
              .notice .laneChange (BitVec.ofNat 32 (match st with | .down => 1 | .up => 257))]
          | .t => [.linkEgress .t st]) }

/-- A frame start on an UP port begins a reception, of which 1536 bytes are stored and all counted; one under way ends as
bad-length. On a DOWN port it begins none (R134). That the bytes come with the frame start is the model's choice (log 5). -/
def Obligations.FrameStartBeginsReception : Prop :=
  ∀ (p : Port) (bs : List Byte) (s : State),
    exec (.frameStart p bs) s = .next (match (s.rx.get p).link with
      | .down => s
      | .up =>
        { s with
          rx := s.rx.set p
            { s.rx.get p with
              reception := some { bytes := bs.take 1536, length := bs.length },
              badLength := match (s.rx.get p).reception with
                | some _ => bump (s.rx.get p).badLength
                | none => (s.rx.get p).badLength } })

/-- At a frame end the tests are made in the order length, error qualifier, check, length agreement; a good frame is counted
received and awaits classification, or is an input-overrun when one awaits already (R8, R135, R136). Without a reception the
frame end is ignored (R134). -/
def Obligations.FrameEndTestsInOrder : Prop :=
  ∀ (p : Port) (err : Bool) (s : State),
    ((s.rx.get p).reception = none → exec (.frameEnd p err) s = .next s) ∧
    (∀ n, (s.rx.get p).reception = some n →
      exec (.frameEnd p err) s = .next
        { s with
          rx := s.rx.set p
            (if n.length < 12 ∨ 1536 < n.length then
               { s.rx.get p with reception := none, badLength := bump (s.rx.get p).badLength }
             else if err = true ∨ n.bytes.drop (n.bytes.length - 4) ≠ crcBytes (n.bytes.take (n.bytes.length - 4)) then
               { s.rx.get p with reception := none, badCheck := bump (s.rx.get p).badCheck }
             else if n.length ≠ 8 + (if trailed n.bytes then 4 else 0) + payloadLen n.bytes + 4 then
               { s.rx.get p with reception := none, badLength := bump (s.rx.get p).badLength }
             else match (s.rx.get p).awaiting with
               | none =>
                 { s.rx.get p with reception := none, received := bump (s.rx.get p).received, awaiting := some n.bytes }
               | some _ =>
                 { s.rx.get p with
                   reception := none, received := bump (s.rx.get p).received, overrun := bump (s.rx.get p).overrun }) })

/-- A receiver answers the agent's link-state and counter reads, cleared when asked, and takes a FULL restart (R137, R138,
R150). -/
def Obligations.ReceiverAnswersTheAgent : Prop :=
  ∀ (p : Port) (s : State) (rest : List Msg),
    (takeFirst (selStateRead (.receiver p)) s.net = some ((), rest) →
      exec (.linkStateRead p) s = .next (s.took rest [.readAns (.receiver p) (.link (s.rx.get p).link)])) ∧
    (∀ q clear, takeFirst (selCounterRead (.receiver p)) s.net = some ((q, clear), rest) →
      exec (.receiverCounterRead p) s = .next
        { s.took rest
            [.readAns (.receiver p) (.counters
              [(s.rx.get p).received, (s.rx.get p).badCheck, (s.rx.get p).badLength, (s.rx.get p).overrun])] with
          rx := if clear then s.rx.set p { s.rx.get p with received := 0, badCheck := 0, badLength := 0, overrun := 0 }
            else s.rx }) ∧
    (takeFirst (selRestart (.receiver p) .full) s.net = some ((), rest) →
      exec (.receiverFullRestart p) s = .next
        { s.took rest [.restartDone (.receiver p)] with
          rx := s.rx.set p
            { link := (s.rx.get p).link, reception := none, awaiting := none, received := 0, badCheck := 0, badLength := 0,
              overrun := 0 } })

/-! ## Classifier -/

/-- A lane frame's header check, and CROSSED before the key is examined (R3, R5, R31, R32). -/
def Obligations.LaneFrameHeaderAndLaneMark : Prop :=
  ∀ (l : Lane) (f : List Byte) (s : State), (s.rx.get (lanePort l)).awaiting = some f →
    let r := s.rx.set (lanePort l) { s.rx.get (lanePort l) with awaiting := none }
    let malformed := frameKind f < 1 ∨ 4 < frameKind f ∨ frameVersion f ≠ 1 ∨ frameKey f = 0 ∨ 1516 < payloadLen f
    (malformed ∨ (trailed f = true ∧ 1 < frameMark f) →
      exec (.classify (lanePort l)) s = .next
        { s with rx := r, cls := { s.cls with counts := { s.cls.counts with badHeader := bump s.cls.counts.badHeader } } }) ∧
    (¬ malformed → trailed f = true → frameMark f = (match l with | .l0 => 1 | .l1 => 0) →
      exec (.classify (lanePort l)) s = .next
        { s with
          rx := r,
          cls := { s.cls with counts :=
            { s.cls.counts with crossed := s.cls.counts.crossed.set l (bump (s.cls.counts.crossed.get l)) } },
          net := s.net ++ [.notice .crossedLane (BitVec.ofNat 32 (match l with | .l0 => 0 | .l1 => 1))] })

/-- A lane frame that passes the header check and is not CROSSED, by its key: own requests, INBOUND, OUTBOUND and unknown
streams, queued with the generation or counted (R33 to R35, R40). -/
def Obligations.LaneFrameByItsKey : Prop :=
  ∀ (l : Lane) (f : List Byte) (s : State), (s.rx.get (lanePort l)).awaiting = some f →
    headerOk f = true → (trailed f = true → frameMark f = (match l with | .l0 => 0 | .l1 => 1)) →
    let s1 := { s with rx := s.rx.set (lanePort l) { s.rx.get (lanePort l) with awaiting := none } }
    let own := frameKind f = 2 ∧ frameKey f = ownRequestKey s.node
    (own → trailed f = true →
      exec (.classify (lanePort l)) s = .next (s1.toMerge (lanePort l) (.management
        { lane := l, seq := frameSeq f, restart := frameRestart f, cls := frameClass f, len := frameLength f,
          gen := s.cls.gen, buf := f }))) ∧
    (¬ own → lookup s.cls.bank (frameKey f) = some .inbound → trailed f = true →
      exec (.classify (lanePort l)) s = .next (s1.toMerge (lanePort l) (.directory
        { key := frameKey f, seq := frameSeq f, restart := frameRestart f, cls := frameClass f, len := frameLength f,
          gen := s.cls.gen, buf := f }))) ∧
    (trailed f = false → own ∨ lookup s.cls.bank (frameKey f) = some .inbound →
      exec (.classify (lanePort l)) s = .next
        { s1 with cls := { s.cls with counts := { s.cls.counts with noTrail := bump s.cls.counts.noTrail } } }) ∧
    (¬ own → lookup s.cls.bank (frameKey f) = some .outbound →
      exec (.classify (lanePort l)) s = .next
        { s1 with cls := { s.cls with counts :=
          { s.cls.counts with wrongDirection := bump s.cls.counts.wrongDirection } } }) ∧
    (¬ own → lookup s.cls.bank (frameKey f) = none →
      let s2 : State :=
        { s1 with
          cls := { s.cls with counts := { s.cls.counts with unknownInbound := bump s.cls.counts.unknownInbound } },
          net := s.net ++ [.notice .unknownStream (BitVec.ofNat 32 (frameKey f).toNat)] }
      let forward := s.cls.params.unknownInbound = .all ∨ (s.cls.params.unknownInbound = .preferredLane ∧
        (l = s.cls.params.preferredLane ∨ s.cls.links.get s.cls.params.preferredLane = .down))
      (forward → exec (.classify (lanePort l)) s = .next (s2.toMerge (lanePort l) (.unknown
        { key := frameKey f, lane := l, cls := frameClass f, len := frameLength f, pool := s.cls.params.unknownPool,
          gen := s.cls.gen, buf := f }))) ∧
      (¬ forward → exec (.classify (lanePort l)) s = .next s2))

/-- A frame from T: header, STRAY-TRAIL, own requests, OUTBOUND, INBOUND and unknown streams (R37 to R39). -/
def Obligations.TributaryFrameClassified : Prop :=
  ∀ (f : List Byte) (s : State), s.rx.t.awaiting = some f →
    let s1 : State := { s with rx := { s.rx with t := { s.rx.t with awaiting := none } } }
    exec (.classify .t) s = .next
      (if frameKind f < 1 ∨ 4 < frameKind f ∨ frameVersion f ≠ 1 ∨ frameKey f = 0 ∨ 1516 < payloadLen f then
         { s1 with cls := { s.cls with counts := { s.cls.counts with badHeader := bump s.cls.counts.badHeader } } }
       else if trailed f = true then
         { s1 with cls := { s.cls with counts := { s.cls.counts with strayTrail := bump s.cls.counts.strayTrail } } }
       else if frameKind f = 2 ∧ frameKey f = ownRequestKey s.node then
         if s.agt.queue.length < 4 then
           { s1 with agt := { s.agt with queue := s.agt.queue ++ [{ side := .t, len := payloadLen f, buf := f }] } }
         else
           { s1 with cls := { s.cls with counts :=
             { s.cls.counts with requestOverrun := bump s.cls.counts.requestOverrun } } }
       else match lookup s.cls.bank (frameKey f) with
         | some .outbound =>
           s1.toReplicator (.directory
             { key := frameKey f, cls := frameClass f, len := frameLength f, gen := s.cls.gen, buf := f })
         | some .inbound =>
           { s1 with cls := { s.cls with counts :=
             { s.cls.counts with wrongDirection := bump s.cls.counts.wrongDirection } } }
         | none =>
           let s2 : State :=
             { s1 with cls := { s.cls with counts :=
               { s.cls.counts with unknownOutbound := bump s.cls.counts.unknownOutbound } } }
           match s.cls.params.unknownOutbound with
           | .discard => s2
           | .preferredLane =>
             s2.toReplicator (.unknown
               { key := frameKey f, cls := frameClass f, len := frameLength f, pool := s.cls.params.unknownPool,
                 gen := s.cls.gen, buf := f }))

/-- The classifier's shadow: created as an exact copy of the active bank and parameters, discarded, and written whole or
refused (R25, R26). A device entry sets the parameter of its index and no other (R22, R26). -/
def Obligations.ClassifierStaging : Prop :=
  (∀ (p : DeviceParams) (e : DeviceEntry) (i : Fin 8),
    let index : Fin 8 :=
      match e with
      | .unknownInbound _ => 0 | .preferredLane _ => 1 | .unknownOutbound _ => 2 | .unknownPool _ => 3
      | .noticeDestination _ => 4 | .noticeInterval _ => 5 | .sessionTimeout _ => 6 | .managementClass _ => 7
    (p.put e).entry i = if i = index then e else p.entry i) ∧
  ∀ (s : State) (rest : List Msg),
    (takeFirst (selShadowCreate .classifier) s.net = some ((), rest) →
      exec .classifierShadowCreate s = .next (match s.cls.shadow with
        | some _ => s.took rest [.shadowCreateAns .classifier false]
        | none =>
          { s.took rest [.shadowCreateAns .classifier true] with
            cls := { s.cls with shadow := some { bank := s.cls.bank, params := s.cls.params } } })) ∧
    (takeFirst (selShadowDiscard .classifier) s.net = some ((), rest) →
      exec .classifierShadowDiscard s = .next
        { s.took rest [.shadowDiscardAns .classifier] with cls := { s.cls with shadow := none } }) ∧
    (∀ rs, takeFirst selRecordWrite s.net = some (rs, rest) →
      exec .recordWrite s = .next (match s.cls.shadow with
        | none => s.took rest [.shadowWriteAns .classifier .noShadow]
        | some sh =>
          if 384 < (writeRecords sh.bank rs).length then s.took rest [.shadowWriteAns .classifier .shadowFull]
          else
            { s.took rest [.shadowWriteAns .classifier .done] with
              cls := { s.cls with shadow := some { sh with bank := writeRecords sh.bank rs } } })) ∧
    (∀ ks, takeFirst selRemoval s.net = some (ks, rest) →
      exec .removal s = .next (match s.cls.shadow with
        | none => s.took rest [.shadowWriteAns .classifier .noShadow]
        | some sh => match ks.findIdx? (fun k => (findRecord sh.bank k).isNone) with
          | some i => s.took rest [.shadowWriteAns .classifier (.notFound i)]
          | none =>
            { s.took rest [.shadowWriteAns .classifier .done] with
              cls := { s.cls with shadow := some { sh with bank := sh.bank.filter fun r => !ks.contains r.key } } })) ∧
    (takeFirst selEmptyBank s.net = some ((), rest) →
      exec .emptyBankWrite s = .next (match s.cls.shadow with
        | none => s.took rest [.shadowWriteAns .classifier .noShadow]
        | some sh =>
          { s.took rest [.shadowWriteAns .classifier .done] with
            cls := { s.cls with shadow := some { sh with bank := [] } } })) ∧
    (∀ es, takeFirst selDeviceWrite s.net = some (es, rest) →
      exec .deviceWrite s = .next (match s.cls.shadow with
        | none => s.took rest [.shadowWriteAns .classifier .noShadow]
        | some sh =>
          { s.took rest [.shadowWriteAns .classifier .done] with
            cls := { s.cls with shadow := some { sh with params := es.foldl DeviceParams.put sh.params } } }))

/-- A record write inserts or replaces by key and keeps every other record, the last record of a key winning; ascending order
and the count of distinct keys follow (R23, R26). -/
def Obligations.RecordWriteInsertsOrReplaces : Prop :=
  ∀ (b rs : List DirRecord), ascending b = true →
    ascending (writeRecords b rs) = true ∧
    (∀ k, findRecord (writeRecords b rs) k =
      match findRecord rs.reverse k with
      | some r => some r
      | none => findRecord b k)

/-- The change list, read key by key: its entries come in ascending key order, and those of one key are what R42's table gives
for the key's records in the two banks. -/
def Obligations.ChangeListComparesTheBanks : Prop :=
  ∀ (old new : List DirRecord), ascending old = true → ascending new = true →
    (changeList old new).Pairwise (fun x y => x.key ≤ y.key) ∧
    ∀ k, (changeList old new).filter (fun e => e.key == k) =
      match findRecord old k, findRecord new k with
      | none, none => []
      | some _, none => [⟨k, .removed⟩]
      | none, some r => [⟨k, .added r⟩]
      | some o, some r =>
        if o = r then []
        else match o.fields, r.fields with
          | .inbound a, .inbound b =>
            if a.mode.isInOrder ≠ b.mode.isInOrder ∨ a.window ≠ b.window then [⟨k, .recoveryChanged r⟩]
            else [⟨k, .otherChanged r⟩]
          | .outbound _, .outbound _ => [⟨k, .otherChanged r⟩]
          | _, _ => [⟨k, .removed⟩, ⟨k, .added r⟩]

/-- The three reads of the classifier, from the named bank, answered to where they were asked from (R24), a device parameter by
its index (R22); its link copies, counter reads and restarts (R36, R44, R45, R208). -/
def Obligations.ClassifierReadsLinksAndRestarts : Prop :=
  (∀ p : DeviceParams,
     p.entry 0 = .unknownInbound p.unknownInbound ∧ p.entry 1 = .preferredLane p.preferredLane ∧
       p.entry 2 = .unknownOutbound p.unknownOutbound ∧ p.entry 3 = .unknownPool p.unknownPool ∧
       p.entry 4 = .noticeDestination p.noticeDestination ∧ p.entry 5 = .noticeInterval p.noticeInterval ∧
       p.entry 6 = .sessionTimeout p.sessionTimeout ∧ p.entry 7 = .managementClass p.managementClass) ∧
  (∀ (s : State) (rest : List Msg) (b : Bank),
     let sh : Option ClassifierShadow :=
       match b with
       | .active => some { bank := s.cls.bank, params := s.cls.params }
       | .shadow => s.cls.shadow
     (∀ k, takeFirst selRecordRead s.net = some ((b, k), rest) →
       exec .recordRead s = .next (s.took rest [.readAns .classifier (match sh with
         | none => .noShadow
         | some x => match x.bank.find? (fun r => r.key == k) with
           | some r => .record r
           | none => .noRecord)])) ∧
     (∀ u i, takeFirst (selDeviceRead u) s.net = some ((b, i), rest) →
       exec (.classifierEntryRead u) s = .next (s.took rest [answerTo u .classifier .unknownPool (match sh with
         | none => .noShadow
         | some x => .device (x.params.entry i))])) ∧
     (∀ u k n, takeFirst (selNextRead u) s.net = some ((b, k, n), rest) →
       exec (.nextRead u) s = .next (s.took rest [answerTo u .classifier .records (match sh with
         | none => .noShadow
         | some x => .records ((x.bank.filter fun r => decide (k < r.key)).take n))]))) ∧
  (∀ (s : State) (rest : List Msg),
     (∀ l st, takeFirst (selLinkClassifier l) s.net = some (st, rest) →
       exec (.classifierLinkChange l) s = .next { s.took rest [] with cls := { s.cls with links := s.cls.links.set l st } }) ∧
     (∀ clear, takeFirst (selCounterRead .classifier) s.net = some ((.device, clear), rest) →
       exec .classifierCounterRead s = .next
         { s.took rest
             [.readAns .classifier (.counters
               [s.cls.counts.badHeader, s.cls.counts.noTrail, s.cls.counts.strayTrail, s.cls.counts.crossed.l0,
                 s.cls.counts.crossed.l1, s.cls.counts.wrongDirection, s.cls.counts.unknownInbound,
                 s.cls.counts.unknownOutbound, s.cls.counts.requestOverrun])] with
           cls := { s.cls with counts := if clear then .zero else s.cls.counts } }) ∧
     (∀ p clear, takeFirst (selCounterRead .classifier) s.net = some ((.port p, clear), rest) →
       exec .classifierCounterRead s = .next
         { s.took rest [.readAns .classifier (.counters [s.cls.overrun.get p])] with
           cls := { s.cls with overrun := if clear then s.cls.overrun.set p 0 else s.cls.overrun } }) ∧
     (takeFirst (selRestart .classifier .traffic) s.net = some ((), rest) →
       exec .classifierTrafficRestart s = .next (s.took rest [.restartDone .classifier])) ∧
     (takeFirst (selRestart .classifier .full) s.net = some ((), rest) →
       exec .classifierFullRestart s = .next
         { s.took rest [.restartDone .classifier] with
           cls :=
             { bank := [], params := .default, gen := 0, shadow := none, links := s.cls.links, counts := .zero,
               overrun := ⟨0, 0, 0⟩ } }))

/-! ## Merge engine -/

/-- The verdict on an arrival at sequence `q` without a restart flag, by its position against the lead and the window, and what
it does to the record and its counters (R46, R53, R56 to R60). -/
def Obligations.VerdictsByWindowPosition : Prop :=
  ∀ (w rogue : Nat) (r : Recovery) (c : InCounts) (q : Seq), 2 ≤ w → w ≤ 128 →
    (r.tracking = none →
      judge w rogue r c q false =
        { recov := { r with rogue := 0 }, counts := c, released := [], alarm := false, judged := .candidate .takeAny }) ∧
    (∀ t, r.tracking = some t → t.window.length = w →
      let ahead := (q - t.lead).toNat
      let behind := (t.lead - q).toNat
      let place := match t.ordered with
        | none => Verdict.deliver
        | some o => if q = o.nxt then Verdict.deliver else Verdict.hold
      (1 ≤ ahead ∧ ahead < w ∨ behind < w ∧ t.window[behind]? = some .vacant →
        judge w rogue r c q false =
          { recov := r, counts := c, released := [], alarm := false, judged := .candidate place }) ∧
      (behind < w → t.window[behind]? = some .accepted →
        judge w rogue r c q false =
          { recov := r, counts := { c with duplicate := bump c.duplicate }, released := [], alarm := false,
            judged := .duplicate }) ∧
      (behind < w → t.window[behind]? = some .waived →
        judge w rogue r c q false =
          { recov := r, counts := { c with late := bump c.late }, released := [], alarm := false, judged := .late }) ∧
      (w ≤ ahead → w ≤ behind →
        let n := min (r.rogue + 1) 255
        let c' := { c with outOfWindow := bump c.outOfWindow }
        judge w rogue r c q false =
          if rogue ≠ 0 ∧ n = rogue then
            { recov := { r with rogue := 0, tracking := none }, counts := { c' with resets := bump c.resets },
              released := r.held, alarm := true, judged := .candidate .takeAny }
          else
            { recov := { r with rogue := n }, counts := c', released := [], alarm := false, judged := .outOfWindow }))

/-- An arrival with the restart flag: DUPLICATE or LATE at a non-OPEN window position, and otherwise the record is reset, held
frames released and the reset of a TRACKING record counted without a notice, and the arrival is a take-any (R55). -/
def Obligations.RestartFlagResets : Prop :=
  ∀ (w rogue : Nat) (r : Recovery) (c : InCounts) (q : Seq), 2 ≤ w → w ≤ 128 →
    (r.tracking = none →
      judge w rogue r c q true =
        { recov := { r with rogue := 0 }, counts := c, released := [], alarm := false, judged := .candidate .takeAny }) ∧
    (∀ t, r.tracking = some t → t.window.length = w →
      let behind := (t.lead - q).toNat
      judge w rogue r c q true =
        if behind < w ∧ t.window[behind]? = some .accepted then
          { recov := r, counts := { c with duplicate := bump c.duplicate }, released := [], alarm := false,
            judged := .duplicate }
        else if behind < w ∧ t.window[behind]? = some .waived then
          { recov := r, counts := { c with late := bump c.late }, released := [], alarm := false, judged := .late }
        else
          { recov := { r with rogue := 0, tracking := none }, counts := { c with resets := bump c.resets },
            released := r.held, alarm := false, judged := .candidate .takeAny })

/-- The recording of an acceptance, in PASS-FIRST and in IN-ORDER: the rogue count returns to 0 and the silence timer starts
again. A take-any waives the window below it, with N one above it in IN-ORDER, and loses nothing; an acceptance ahead of the
lead moves the window up, counting lost each OPEN position that leaves; one inside it marks its position and loses nothing (R64
to R66, R91). A PASS-FIRST record stays without an IN-ORDER part and releases nothing; an IN-ORDER record keeps its part. -/
def Obligations.AcceptanceMovesTheWindow : Prop :=
  ∀ (w silence now : Nat) (inOrder : Bool) (r : Recovery) (q : Seq) (e : Option Held), 2 ≤ w → w ≤ 128 →
    let timer := if silence = 0 then none else some (now + silence)
    let x := accept w silence inOrder now r q e
    (r.tracking = none →
      x =
        { recov :=
            { r with
              rogue := 0,
              tracking := some
                { lead := q, window := .accepted :: List.replicate (w - 1) .waived, silence := timer,
                  ordered := if inOrder = true then some { nxt := q + 1, held := [], timer := none } else none } },
          lost := 0, released := [] }) ∧
    (∀ t, r.tracking = some t → t.window.length = w →
      let ahead := (q - t.lead).toNat
      let behind := (t.lead - q).toNat
      let part := x.recov.tracking.bind fun t => t.ordered
      let moved (lead : Seq) (win : List Pos) : Recovery :=
        { r with rogue := 0, tracking := some { lead := lead, window := win, silence := timer, ordered := part } }
      (t.ordered = none → part = none ∧ x.released = []) ∧ (t.ordered.isSome = true → part.isSome = true) ∧
      (1 ≤ ahead → ahead < w →
        ∃ win, win.length = w ∧ x.recov = moved q win ∧
          x.lost = ((t.window.drop (w - ahead)).filter fun p => p == .vacant).length ∧
          ∀ i, i < w → win[i]? = if i = 0 then some .accepted else if i < ahead then some .vacant else t.window[i - ahead]?) ∧
      (behind < w → x.recov = moved t.lead (t.window.set behind .accepted) ∧ x.lost = 0))

/-- The recovery records keep their laws. While one tracks, its window has exactly W positions, its lead is ACCEPTED, and it has
an IN-ORDER part exactly in IN-ORDER: judging, recording, hold expiry and an OTHER-CHANGED reconciliation keep that (R46, R53,
R64, R76, R87, R201). Every step keeps the directory records of the part within the values R21 admits (R13, R182); and, where
an OTHER-CHANGED entry leaves mode and W as R42 says, every step keeps the laws of R46, R76 and R77 on every stream: N from the
window bottom to one above the lead, positions below N closed, each ACCEPTED position above it held, the hold list strictly
ascending, at most W - 1 long and inside the window, and the hold timer at the earliest deadline (R86). -/
def Obligations.RecoveryRecordsKeepTheirShape : Prop :=
  (∀ (w : Nat) (inOrder : Bool) (r : Recovery), 2 ≤ w → w ≤ 128 → r.shapeOk w inOrder = true →
    (∀ rogue c q f, (judge w rogue r c q f).recov.shapeOk w inOrder = true) ∧
    (∀ silence now q e, (accept w silence inOrder now r q e).recov.shapeOk w inOrder = true) ∧
    (∀ now t o, r.tracking = some t → t.ordered = some o →
      ({ r with tracking := some (expireHold now t o).1 } : Recovery).shapeOk w inOrder = true) ∧
    (∀ rogue silence now, (r.otherChanged rogue silence now).shapeOk w inOrder = true)) ∧
  (∀ s t : State, s.RecordsOk → step s = .next t → t.RecordsOk) ∧
  (∀ s t : State, s.RecordsOk → s.mrg.ChangesFit → s.mrg.RecoveryOk → step s = .next t → t.mrg.RecoveryOk)

/-- Held frames leave in ascending order and none is lost. A take-any sets N one above its sequence (R65). A frame joins the hold
list at its place in the order from N (R77). An acceptance that puts the window bottom above N releases every held frame below
the bottom and moves N there (R90); a frame delivered at N moves N past itself; then the frames that follow N without a gap
leave (R82, R84). A hold expiry takes the highest frame whose deadline has come: the OPEN positions from N up to below it are
waived and counted lost and every other position stays, every frame up to it leaves, N passes it and the frames that follow
leave (R87, R91). The timer runs to the earliest deadline (R86). A released frame is asked onto T under the stream's class, or
its own under KEEP, with the stream's strip flag (R83). -/
def Obligations.HeldFramesLeaveInOrder : Prop :=
  let from' (n : Seq) (h : Held) : Nat := (h.seq - n).toNat
  let ascends (n : Seq) (hs : List Held) : Prop := (hs.map (from' n)).Pairwise (· < ·)
  (∀ (n : Seq) (hs : List Held),
    (releaseRun n hs).2.2 ++ (releaseRun n hs).2.1 = hs ∧
    (releaseRun n hs).1 = n + BitVec.ofNat 16 (releaseRun n hs).2.2.length ∧
    (∀ i h, (releaseRun n hs).2.2[i]? = some h → h.seq = n + BitVec.ofNat 16 i) ∧
    (∀ h, (releaseRun n hs).2.1.head? = some h → h.seq ≠ (releaseRun n hs).1)) ∧
  (∀ (n : Seq) (h : Held) (hs : List Held), ascends n hs → (∀ x ∈ hs, x.seq ≠ h.seq) →
    ascends n (joinHold n h hs) ∧ (joinHold n h hs).Perm (h :: hs)) ∧
  (∀ hs : List Held, (earliest hs = none ↔ hs = []) ∧
    ∀ d, earliest hs = some d ↔ (∃ h ∈ hs, h.deadline = d) ∧ ∀ h ∈ hs, d ≤ h.deadline) ∧
  (∀ (w silence now : Nat) (r : Recovery) (q : Seq) (e : Option Held), r.tracking = none →
    let x := accept w silence true now r q e
    x.released = [] ∧ x.lost = 0 ∧
      (x.recov.tracking.bind fun t => t.ordered) = some { nxt := q + 1, held := [], timer := none }) ∧
  (∀ (w silence now : Nat) (inOrder : Bool) (r : Recovery) (t : Tracking) (o : Ordered) (q : Seq) (e : Option Held),
    2 ≤ w → w ≤ 128 → r.tracking = some t → t.ordered = some o → t.OrderOk o w → t.window.length = w →
    t.judge w q = .candidate (if e.isSome then .hold else .deliver) → (∀ h, e = some h → h.seq = q) →
    let ahead := (q - t.lead).toNat
    let lead := if 1 ≤ ahead ∧ ahead < w then q else t.lead
    let bottom := lead - BitVec.ofNat 16 w + 1
    let joined := match e with
      | some h => joinHold o.nxt h o.held
      | none => o.held
    let pushed := w < (lead + 1 - o.nxt).toNat
    let below := joined.filter fun h => decide (pushed ∧ from' o.nxt h < (bottom - o.nxt).toNat)
    let rest := joined.filter fun h => !decide (pushed ∧ from' o.nxt h < (bottom - o.nxt).toNat)
    let n := if pushed then bottom else o.nxt
    let run := releaseRun (if e.isNone then n + 1 else n) rest
    let x := accept w silence inOrder now r q e
    ascends o.nxt joined ∧ x.released = below ++ run.2.2 ∧
      ∃ t', x.recov.tracking = some t' ∧ t'.lead = lead ∧
        t'.ordered = some { nxt := run.1, held := run.2.1, timer := earliest run.2.1 } ∧ ascends run.1 run.2.1) ∧
  (∀ (now : Nat) (t : Tracking) (o : Ordered), (∀ h ∈ o.held, now < h.deadline) → expireHold now t o = (t, 0, [])) ∧
  (∀ (now : Nat) (t : Tracking) (o : Ordered) (pre post : List Held) (f : Held),
    o.held = pre ++ f :: post → f.deadline ≤ now → (∀ h ∈ post, now < h.deadline) →
    let x := expireHold now t o
    let run := releaseRun (f.seq + 1) post
    x.2.2 = pre ++ f :: run.2.2 ∧
    x.1.ordered = some { nxt := run.1, held := run.2.1, timer := earliest run.2.1 } ∧
    x.1.lead = t.lead ∧ x.1.silence = t.silence ∧ x.1.window.length = t.window.length ∧
    (∀ (i : Nat) (p : Pos), t.window[i]? = some p →
      x.1.window[i]? = some
        (if p = .vacant ∧ (t.lead - BitVec.ofNat 16 i - o.nxt).toNat < (f.seq - o.nxt).toNat then .waived else p)) ∧
    x.2.1 = t.window.count .vacant - x.1.window.count .vacant ∧
    x.1.window.count .vacant ≤ t.window.count .vacant) ∧
  (∀ (st : Stream) (h : Held),
    releaseMsg st h = .enqueue
      { port := .t, cls := (match st.params.cls with | .fixed c => c | .keep => h.cls), ref := h.ref, mark := none,
        strip := st.params.strip, tag := .release st.key st.recov.born })

/-- The merge engine's takes: of a directory arrival (WITHDRAWN, or judged with a grant asked for a candidate), of an unknown
arrival and of a management arrival, with nothing in hand, no deferred event waiting and the stamp not one above its
parameter generation (R50 to R54, R60, R61, R70 to R72). Otherwise the entry waits at the head, and no entry behind it is
taken. -/
def Obligations.MergeEngineTakesArrivals : Prop :=
  (∀ (s : State) (e : MergeEntry) (rest : List MergeEntry), s.mrg.queue = e :: rest → s.mergeTakes e.gen = false →
    exec .takeDirectoryArrival s = .next s ∧ exec .takeUnknownArrival s = .next s ∧
      exec .takeManagementArrival s = .next s) ∧
  (∀ (s : State) (e e' : MergeEntry) (rest : List MergeEntry), s.mrg.queue = e :: rest → e'.take ≠ e.take →
    exec e'.take s = .next s) ∧
  (∀ (s : State) (g : Gen), s.mergeTakes g = true ↔
    s.mrg.hand = none ∧ (∀ e ∈ s.mrg.deferred, s.mergeWaits e = false) ∧ g ≠ s.mrg.gen + 1) ∧
  (∀ (s : State) (a : DirArrival) (rest : List MergeEntry),
    s.mrg.queue = .directory a :: rest → s.mergeTakes a.gen = true →
    let s0 := { s with mrg := { s.mrg with queue := rest, deferred := [], handNo := s.mrg.handNo + 1 } }
    let s1 := match s.mrg.pending.find? (fun e => e.key == a.key) with
      | some e => s0.mergeStep e
      | none => s0
    exec .takeDirectoryArrival s = .next (match s1.mrg.find a.key with
      | none => { s1 with mrg := { s1.mrg with withdrawn := bump s1.mrg.withdrawn } }
      | some st =>
        let j := judge st.params.window st.params.rogue st.recov st.counts a.seq a.restart
        let m := s1.mrg.upd a.key fun x => { x with recov := j.recov, counts := j.counts }
        let ms := j.released.map (releaseMsg st) ++
          (if j.alarm then [.notice .streamReset (BitVec.ofNat 32 a.key.toNat)] else [])
        match j.judged with
        | .candidate v =>
          { s1 with
            mrg := { m with hand := some (.directory a v none) },
            net := s1.net ++ ms ++
              [.grant { who := .merge, hand := s1.mrg.handNo, stream := some a.key, len := a.len,
                        policer := st.params.policer, pool := st.params.pool }] }
        | _ => { s1 with mrg := m, net := s1.net ++ ms })) ∧
  (∀ (s : State) (a : UnkArrival) (rest : List MergeEntry),
    s.mrg.queue = .unknown a :: rest → s.mergeTakes a.gen = true →
    exec .takeUnknownArrival s = .next
      { s with
        mrg :=
          { s.mrg with
            queue := rest, deferred := [], handNo := s.mrg.handNo + 1, hand := some (.unknown a none) },
        net := s.net ++
          [.grant { who := .merge, hand := s.mrg.handNo + 1, stream := none, len := a.len, policer := none,
                    pool := a.pool }] }) ∧
  (∀ (s : State) (a : MgmtArrival) (rest : List MergeEntry),
    s.mrg.queue = .management a :: rest → s.mergeTakes a.gen = true →
    let j := judge 32 8 s.mrg.mgmt s.mrg.mgmtCounts a.seq a.restart
    let m : Merge := { s.mrg with
      queue := rest, deferred := [], handNo := s.mrg.handNo + 1, mgmt := j.recov, mgmtCounts := j.counts }
    let ms := if j.alarm then [Msg.notice .streamReset (BitVec.ofNat 32 (ownRequestKey s.node).toNat)] else []
    exec .takeManagementArrival s = .next (match j.judged with
      | .candidate v =>
        { s with
          mrg := { m with hand := some (.management a v) },
          net := s.net ++ ms ++
            [.placement (s.mrg.handNo + 1) { side := lanePort a.lane, len := payloadLen a.buf, buf := a.buf }] }
      | _ => { s with mrg := m, net := s.net ++ ms }))

/-- A grant answer at the merge engine: a refusal ends the handling with the record as it stood; a grant is written into its
blocks and delivered to T, or held under R80, or refused NO-HOLD under R81; an answer of an abandoned handling returns its
blocks (R61 to R63, R70, R75, R80, R81). At the end of a handling the events deferred past it that are still due wait, and the
others are gone (R51, R88). -/
def Obligations.MergeEngineTakesGrantAnswers : Prop :=
  ∀ (s : State) (n : Nat) (r : GrantResult) (rest : List Msg),
    takeFirst (selGrantAns .merge) s.net = some ((n, r), rest) →
    (∀ a v, s.mrg.hand = some (.directory a v none) → n = s.mrg.handNo →
      exec .mergeGrantAnswer s = .next (match r with
        | .granted ref =>
          let adm := s.adm.updRecord ref fun x => { x with bytes := a.buf }
          match s.mrg.find a.key with
          | none => State.handled { s.took rest [.release ref] with adm := adm }
          | some st =>
            if v = .hold then
              if s.mrg.holdInUse < 1024 then
                let x := accept st.params.window st.params.silence st.params.mode.isInOrder s.clock.millis st.recov a.seq
                  (some { seq := a.seq, ref := ref, deadline := s.clock.tens + st.params.mode.holdField, cls := a.cls })
                State.handled
                  { s.took rest (x.released.map (releaseMsg st)) with
                    adm := adm,
                    mrg := s.mrg.upd a.key fun y =>
                      { y with
                        recov := x.recov,
                        counts :=
                          { y.counts with passed := bump y.counts.passed, lost := count y.counts.lost x.lost } } }
              else
                State.handled
                  { s.took rest [.release ref, .notice .holdExhausted (BitVec.ofNat 32 a.key.toNat)] with
                    adm := adm,
                    mrg := s.mrg.upd a.key fun y =>
                      { y with counts := { y.counts with noHold := bump y.counts.noHold } } }
            else
              { s.took rest
                  [.enqueue { port := .t, cls := st.params.cls.queue a.cls, ref := ref, mark := none,
                              strip := st.params.strip, tag := .delivery s.mrg.handNo }] with
                adm := adm, mrg := { s.mrg with hand := some (.directory a v (some ref)) } }
        | _ => (s.took rest []).handled)) ∧
    (∀ a, s.mrg.hand = some (.unknown a none) → n = s.mrg.handNo →
      exec .mergeGrantAnswer s = .next (match r with
        | .granted ref =>
          { s.took rest
              [.enqueue { port := .t, cls := a.cls, ref := ref, mark := none, strip := false,
                          tag := .delivery s.mrg.handNo }] with
            adm := s.adm.updRecord ref fun x => { x with bytes := a.buf },
            mrg := { s.mrg with hand := some (.unknown a (some ref)) } }
        | _ => (s.took rest []).handled)) ∧
    (s.mrg.hand = none ∨ n ≠ s.mrg.handNo →
      exec .mergeGrantAnswer s = .next (s.took rest (match r with
        | .granted ref => [.release ref]
        | _ => [])))

/-- The answers to a delivery, to a management placement and to a release's enqueue: the merge engine's reference is released,
a placed candidate is recorded, a refusal counts one queue-full; the counters of a stream deleted meanwhile are left alone
(R62 to R64, R72, R85). At the end of a handling the events deferred past it that are still due wait, and the others are gone:
an expiry whose timer the acceptance restarted or moved does not happen (R51, R88). Of an abandoned handling, a delivery's answer
only releases the reference it names (R75), and a management placement's answer changes nothing: the placement itself stands,
which is the model's choice (log 18). -/
def Obligations.MergeEngineTakesPlacementAnswers : Prop :=
  (∀ (s : State) (ref : FrameRef) (r : EnqResult) (rest : List Msg) (a : DirArrival) (v : Verdict) (own : FrameRef)
      (st : Stream),
    takeFirst selDeliveryAns s.net = some ((s.mrg.handNo, ref, r), rest) →
    s.mrg.hand = some (.directory a v (some own)) → s.mrg.find a.key = some st →
    let x := accept st.params.window st.params.silence st.params.mode.isInOrder s.clock.millis st.recov a.seq none
    exec .mergePlacementAnswer s = .next (match r with
      | .placed =>
        State.handled
          { s.took rest (.release ref :: x.released.map (releaseMsg st)) with
            mrg := s.mrg.upd a.key fun y =>
              { y with
                recov := x.recov,
                counts := { y.counts with passed := bump y.counts.passed, lost := count y.counts.lost x.lost } } }
      | _ =>
        State.handled
          { s.took rest [.release ref] with
            mrg := s.mrg.upd a.key fun y =>
              { y with counts := { y.counts with queueFull := bump y.counts.queueFull } } })) ∧
  (∀ (s : State) (ref : FrameRef) (r : EnqResult) (rest : List Msg) (a : UnkArrival) (own : FrameRef),
    takeFirst selDeliveryAns s.net = some ((s.mrg.handNo, ref, r), rest) → s.mrg.hand = some (.unknown a (some own)) →
    exec .mergePlacementAnswer s = .next (s.took rest [.release ref]).handled) ∧
  (∀ (s : State) (ok : Bool) (rest : List Msg) (a : MgmtArrival) (v : Verdict),
    takeFirst selPlacementAns s.net = some ((s.mrg.handNo, ok), rest) → s.mrg.hand = some (.management a v) →
    let x := accept 32 2000 false s.clock.millis s.mrg.mgmt a.seq none
    let c := s.mrg.mgmtCounts
    exec .managementPlacementAnswer s = .next
      (State.handled
        { s.took rest [] with
          mrg :=
            { s.mrg with
              mgmt := if ok then x.recov else s.mrg.mgmt,
              mgmtCounts := if ok then { c with passed := bump c.passed, lost := count c.lost x.lost }
                else { c with queueFull := bump c.queueFull } } })) ∧
  (∀ (s : State) (n : Nat) (rest : List Msg), s.mrg.hand = none ∨ n ≠ s.mrg.handNo →
    (∀ ref r, takeFirst selDeliveryAns s.net = some ((n, ref, r), rest) →
      exec .mergePlacementAnswer s = .next (s.took rest [.release ref])) ∧
    (∀ ok, takeFirst selPlacementAns s.net = some ((n, ok), rest) →
      exec .managementPlacementAnswer s = .next (s.took rest []))) ∧
  (∀ (s : State) (frame born : Nat) (k : Key) (ref : FrameRef) (r : EnqResult) (rest : List Msg),
    takeFirst (selReleaseAns frame) s.net = some ((k, born, ref, r), rest) →
    exec (.releaseEnqueueAnswer frame) s = .next
      { s.took rest [.release ref] with
        mrg := if r = .placed then s.mrg else s.mrg.upd k fun st =>
          if st.recov.born = born then { st with counts := { st.counts with queueFull := bump st.counts.queueFull } }
          else st })

/-- The merge engine's timers. A silence expiry resets a TRACKING record to FRESH, releasing its held frames, counting a reset
and raising STREAM-RESET with the stream's key; a hold expiry waives and releases under R87; one that is not due does not
happen. An entry in hand defers either, of a directory key or of the management record (R51, R69, R71, R87, R92). That an
expiry is taken when its command comes, at or after its time, is the model's choice (log 3); that a deferred one is remembered
once and its command given again, too (log 6). -/
def Obligations.MergeEngineTimersExpire : Prop :=
  let past (s : State) (e : MergeDeferred) : State :=
    { s with
      mrg :=
        { s.mrg with
          deferred := if s.mrg.deferred.contains e then s.mrg.deferred else s.mrg.deferred ++ [e] } }
  (∀ (s : State) (k : Key) (st : Stream), s.mrg.find k = some st → s.mrg.hand = none →
    (st.recov.silenceDue s.clock.millis = true →
      exec (.silenceExpiry (.key k)) s = .next
        { s with
          mrg :=
            { s.mrg.upd k fun x =>
                { x with
                  recov := { x.recov with rogue := 0, tracking := none },
                  counts := { x.counts with resets := bump x.counts.resets } } with
              deferred := s.mrg.deferred.filter fun e => !(e == .silence (.key k)) },
          net := s.net ++ (st.recov.held.map (releaseMsg st) ++
            [.notice .streamReset (BitVec.ofNat 32 k.toNat)]) }) ∧
    (∀ t o, st.recov.tracking = some t → t.ordered = some o → st.recov.holdDue s.clock.tens = true →
      let x := expireHold s.clock.tens t o
      exec (.holdTimerExpiry k) s = .next
        { s with
          mrg :=
            { s.mrg.upd k fun y =>
                { y with
                  recov := { y.recov with tracking := some x.1 },
                  counts := { y.counts with lost := count y.counts.lost x.2.1 } } with
              deferred := s.mrg.deferred.filter fun e => !(e == .hold k) },
          net := s.net ++ x.2.2.map (releaseMsg st) })) ∧
  (∀ s : State, s.mrg.mgmt.silenceDue s.clock.millis = true → s.mrg.hand = none →
    exec (.silenceExpiry .management) s = .next
      { s with
        mrg :=
          { s.mrg with
            mgmt := { s.mrg.mgmt with rogue := 0, tracking := none },
            mgmtCounts := { s.mrg.mgmtCounts with resets := bump s.mrg.mgmtCounts.resets },
            deferred := s.mrg.deferred.filter fun e => !(e == .silence .management) },
        net := s.net ++ [.notice .streamReset (BitVec.ofNat 32 (ownRequestKey s.node).toNat)] }) ∧
  (∀ (s : State) (h : MergeHand), s.mrg.hand = some h →
    (∀ k st, s.mrg.find k = some st →
      (st.recov.silenceDue s.clock.millis = true →
        exec (.silenceExpiry (.key k)) s = .next (past s (.silence (.key k)))) ∧
      (st.recov.holdDue s.clock.tens = true → exec (.holdTimerExpiry k) s = .next (past s (.hold k)))) ∧
    (s.mrg.mgmt.silenceDue s.clock.millis = true →
      exec (.silenceExpiry .management) s = .next (past s (.silence .management)))) ∧
  (∀ s : State,
    (∀ k, (∀ st, s.mrg.find k = some st → st.recov.silenceDue s.clock.millis = false) →
      exec (.silenceExpiry (.key k)) s = .next s) ∧
    (∀ k, (∀ st, s.mrg.find k = some st → st.recov.holdDue s.clock.tens = false) →
      exec (.holdTimerExpiry k) s = .next s) ∧
    (s.mrg.mgmt.silenceDue s.clock.millis = false → exec (.silenceExpiry .management) s = .next s)) ∧
  (∀ (r : Recovery) (now : Nat),
    (r.silenceDue now = true ↔ ∃ t e, r.tracking = some t ∧ t.silence = some e ∧ e ≤ now) ∧
    (r.holdDue now = true ↔ ∃ t o e, r.tracking = some t ∧ t.ordered = some o ∧ o.timer = some e ∧ e ≤ now))

/-- The merge engine's reconciliation: a request sets the parameter generation and the pending entries that concern it; each
step reconciles the lowest pending key under its category; the done report follows the last (R52, R197 to R201). An
OTHER-CHANGED step lowers the rogue count below a new threshold it has reached (R201) and keeps, starts or stops the silence
timer (R68), a deferred expiry of a stopped one being gone (R51). An entry in hand defers the request, which stays on its way,
and a step (R51; log 6, the model's choice of how). -/
def Obligations.MergeEngineReconciles : Prop :=
  (∀ (s : State) (h : MergeHand), s.mrg.hand = some h →
    let past (e : MergeDeferred) : State :=
      { s with
        mrg :=
          { s.mrg with
            deferred := if s.mrg.deferred.contains e then s.mrg.deferred else s.mrg.deferred ++ [e] } }
    (∀ q, takeFirst (selReconcile .merge) s.net = some q →
      exec .mergeReconciliationRequest s = .next (past .request)) ∧
    (s.mrg.pending ≠ [] → exec .mergeReconcileKey s = .next (past .reconcileStep))) ∧
  (∀ (s : State) (g : Gen) (cs : List ChangeEntry) (l : Lane) (rest : List Msg),
    takeFirst (selReconcile .merge) s.net = some ((g, cs, l), rest) → s.mrg.hand = none →
    let concerned := cs.filter fun e => match e.cat with
      | .removed => (s.mrg.find e.key).isSome
      | .added r => r.direction == .inbound
      | .recoveryChanged r => r.direction == .inbound
      | .otherChanged r => r.direction == .inbound
    exec .mergeReconciliationRequest s = .next
      { s.took rest (if concerned = [] then [.reconcileDone .merge] else []) with
        mrg :=
          { s.mrg with
            gen := g, pending := concerned, deferred := s.mrg.deferred.filter fun e => !(e == .request) } }) ∧
  (∀ (s : State) (e : ChangeEntry) (es : List ChangeEntry), s.mrg.pending = e :: es → s.mrg.hand = none →
    let rest := s.mrg.pending.filter fun x => !(x.key == e.key)
    let fin : List Msg := if rest = [] then [.reconcileDone .merge] else []
    let m : Merge := { s.mrg with pending := rest, deferred := s.mrg.deferred.filter fun x => !(x == .reconcileStep) }
    (e.cat = .removed → ∀ st, s.mrg.find e.key = some st →
      exec .mergeReconcileKey s = .next
        { s with
          mrg :=
            { m with
              withdrawn := count s.mrg.withdrawn st.recov.held.length,
              streams := s.mrg.streams.filter fun x => !(x.key == e.key) },
          net := s.net ++ (st.recov.held.map (fun h => .release h.ref) ++ [.countDelete .merge e.key]) ++ fin }) ∧
    (∀ r f, e.cat = .added r → r.fields = .inbound f →
      exec .mergeReconcileKey s = .next
        { s with
          mrg :=
            { m with
              streams := (s.mrg.streams.filter fun x => !(x.key == e.key)) ++
                [{ key := e.key, params := { f with policer := r.policer, pool := r.pool, cls := r.cls },
                   recov := { born := s.mrg.bornNo, rogue := 0, tracking := none }, counts := .zero }],
              bornNo := s.mrg.bornNo + 1 },
          net := s.net ++ [.countCreate .merge e.key] ++ fin }) ∧
    (∀ r f st, e.cat = .recoveryChanged r → r.fields = .inbound f → s.mrg.find e.key = some st →
      exec .mergeReconcileKey s = .next
        { s with
          mrg :=
            { m with
              streams := s.mrg.streams.map fun x =>
                if x.key = e.key then
                  { x with
                    params := { f with policer := r.policer, pool := r.pool, cls := r.cls },
                    recov := { x.recov with rogue := 0, tracking := none } }
                else x },
          net := s.net ++ st.recov.held.map (releaseMsg st) ++ fin }) ∧
    (∀ r f, e.cat = .otherChanged r → r.fields = .inbound f →
      exec .mergeReconcileKey s = .next
        { s with
          mrg :=
            { m with
              streams := s.mrg.streams.map fun x =>
                if x.key = e.key then
                  { x with
                    params := { f with policer := r.policer, pool := r.pool, cls := r.cls },
                    recov :=
                      { x.recov with
                        rogue := if f.rogue ≠ 0 ∧ f.rogue ≤ x.recov.rogue then f.rogue - 1 else x.recov.rogue,
                        tracking := x.recov.tracking.map fun t =>
                          { t with
                            silence :=
                              if f.silence = 0 then none
                              else if t.silence.isSome = true then t.silence
                              else some (s.clock.millis + f.silence) } } }
                else x,
              deferred :=
                if f.silence = 0 then m.deferred.filter fun x => !(x == .silence (.key e.key)) else m.deferred },
          net := s.net ++ fin }))

/-- The merge engine answers the hold-state and counter reads and takes its restarts: at a TRAFFIC restart every record is
FRESH and each held frame counts in withdrawn-held; at a FULL restart nothing is left (R74, R75, R93, R171, R172, R208). -/
def Obligations.MergeEngineReadsAndRestarts : Prop :=
  ∀ (s : State) (rest : List Msg),
    (takeFirst (selStateRead .merge) s.net = some ((), rest) →
      exec .holdStateRead s = .next
        (s.took rest [.readAns .merge (.holds (s.mrg.streams.map fun st => st.recov.held.length).sum)])) ∧
    (∀ k d clear, takeFirst (selCounterRead .merge) s.net = some ((.key k d, clear), rest) →
      exec .mergeCounterRead s = .next
        (if k = ownRequestKey s.node then
           { s.took rest [.readAns .merge (.counters s.mrg.mgmtCounts.toList)] with
             mrg := { s.mrg with mgmtCounts := if clear then .zero else s.mrg.mgmtCounts } }
         else match s.mrg.find k with
           | none => s.took rest [.readAns .merge .noSet]
           | some st =>
             { s.took rest
                 [.readAns .merge (.counters
                   [st.counts.passed, st.counts.duplicate, st.counts.late, st.counts.outOfWindow, st.counts.lost,
                     st.counts.resets, st.counts.withdrawnHeld, st.counts.noHold, st.counts.queueFull])] with
               mrg := if clear then s.mrg.upd k fun x => { x with counts := .zero } else s.mrg })) ∧
    (∀ clear, takeFirst (selCounterRead .merge) s.net = some ((.device, clear), rest) →
      exec .mergeCounterRead s = .next
        { s.took rest [.readAns .merge (.counters [s.mrg.withdrawn])] with
          mrg := { s.mrg with withdrawn := if clear then 0 else s.mrg.withdrawn } }) ∧
    (takeFirst (selRestart .merge .traffic) s.net = some ((), rest) →
      exec .mergeTrafficRestart s = .next
        { s.took rest
            ((s.mrg.streams.flatMap fun st => st.recov.held.map fun h => .release h.ref) ++ [.restartDone .merge]) with
          mrg :=
            { s.mrg with
              streams := s.mrg.streams.map fun st =>
                { st with
                  recov := { st.recov with rogue := 0, tracking := none },
                  counts :=
                    { st.counts with withdrawnHeld := count st.counts.withdrawnHeld st.recov.held.length } },
              mgmt := { s.mrg.mgmt with rogue := 0, tracking := none }, queue := [], hand := none,
              deferred := s.mrg.deferred.filter (· == .request) } }) ∧
    (takeFirst (selRestart .merge .full) s.net = some ((), rest) →
      exec .mergeFullRestart s = .next
        { s.took rest
            ((s.mrg.streams.flatMap fun st => st.recov.held.map fun h => .release h.ref) ++ [.restartDone .merge]) with
          mrg :=
            { streams := [], gen := 0, mgmt := { born := 0, rogue := 0, tracking := none }, mgmtCounts := .zero,
              withdrawn := 0, queue := [], hand := none, handNo := s.mrg.handNo, deferred := [], pending := [],
              bornNo := s.mrg.bornNo } })

/-! ## Admission unit, and the tables staged at it and at the egress unit -/

/-- A grant is refused over-rate, then no-buffer, or made as one change; a refusal is counted for its key and direction while
that entry stands, and a no-buffer raises POOL-EXHAUSTED with the pool (R99, R101, R104, R105, R107). A reserve grant is made
while the reserve has room for it and otherwise counted for the reply stream (R103, R106). -/
def Obligations.GrantsAreTestedAndMadeAsOneChange : Prop :=
  (∀ (who : Block) (s : State) (q : GrantReq) (rest : List Msg), takeFirst (selGrant who) s.net = some (q, rest) →
    let n := (q.len + 255) / 256
    let overRate := ∃ i, q.policer = some i ∧ (s.adm.policers[i]).enabled = true ∧ (s.adm.policers[i]).credit < q.len
    let noBuffer := s.adm.quotas[q.pool] < s.adm.inUse[q.pool] + n ∨ s.adm.free < n + (16 - s.adm.reserve)
    let counted (f : KeyCount → KeyCount) : List KeyCount :=
      match q.stream with
      | none => s.adm.counts
      | some k => s.adm.counts.map fun c =>
        if c.key = k ∧ c.dir = (if q.who = .merge then Direction.inbound else .outbound) then f c else c
    let charged : Vector Policer 64 :=
      match q.policer with
      | none => s.adm.policers
      | some i =>
        if (s.adm.policers[i]).enabled = true then
          s.adm.policers.set i { s.adm.policers[i] with credit := (s.adm.policers[i]).credit - q.len }
        else s.adm.policers
    (overRate →
      exec (.grantRequest who) s = .next
        { s.took rest [.grantAns q.who q.hand .overRate] with
          adm := { s.adm with counts := counted fun c => { c with overRate := bump c.overRate } } }) ∧
    (¬ overRate → noBuffer →
      exec (.grantRequest who) s = .next
        { s.took rest
            [.grantAns q.who q.hand .noBuffer, .notice .poolExhausted (BitVec.ofNat 32 q.pool.val)] with
          adm := { s.adm with counts := counted fun c => { c with noBuffer := bump c.noBuffer } } }) ∧
    (¬ overRate → ¬ noBuffer →
      exec (.grantRequest who) s = .next
        { s.took rest
            [.grantAns q.who q.hand (.granted { id := s.adm.nextId, restart := s.adm.restarts })] with
          adm :=
            { s.adm with
              policers := charged, free := s.adm.free - n,
              inUse := s.adm.inUse.set q.pool (s.adm.inUse[q.pool] + n), nextId := s.adm.nextId + 1,
              records := s.adm.records ++
                [{ id := s.adm.nextId, source := .pool q.pool, blocks := n, count := 1, bytes := [], watch := false }] } })) ∧
  (∀ (who : Block) (s : State) (hand len : Nat) (rest : List Msg),
    takeFirst (selReserveGrant who) s.net = some ((hand, len), rest) →
    let n := (len + 255) / 256
    exec (.reserveGrantRequest who) s = .next
      (if s.adm.reserve + n ≤ 16 then
        { s.took rest [.reserveAns who hand (some { id := s.adm.nextId, restart := s.adm.restarts })] with
          adm :=
            { s.adm with
              free := s.adm.free - n, reserve := s.adm.reserve + n, nextId := s.adm.nextId + 1,
              records := s.adm.records ++
                [{ id := s.adm.nextId, source := .reserve, blocks := n, count := 1, bytes := [], watch := false }] } }
      else
        { s.took rest [.reserveAns who hand none] with
          adm := { s.adm with replyNoBuffer := bump s.adm.replyNoBuffer } }))

/-- At a refill expiry every enabled policer's credit rises by its refill up to its ceiling (R98); the model's clock counts the
10 µs period (log 3, the model's choice). References to a frame record: a copy-add raises its count, a release lowers it and
at zero returns its blocks to their source and ends it, and the agent's watch is answered then, or at once. A reference that
names no record of the present restart count changes nothing, whatever record of another restart count bore its number (R107 to R109,
R117, R174). -/
def Obligations.RefillsAndReferences : Prop :=
  (∀ (a : Admission) (ref : FrameRef),
    (∀ r, a.recordOf ref = some r → ref.restart = a.restarts ∧ r ∈ a.records ∧ r.id = ref.id) ∧
    (a.recordOf ref = none ↔ ref.restart ≠ a.restarts ∨ ∀ r ∈ a.records, r.id ≠ ref.id)) ∧
  (∀ s : State, ∃ t, exec .refillExpiry s = .next t ∧
    t = { s with adm := { s.adm with policers := t.adm.policers }, clock := { s.clock with tens := s.clock.tens + 1 } } ∧
    ∀ i : Fin 64, t.adm.policers[i] =
      if (s.adm.policers[i]).enabled = true then
        { s.adm.policers[i] with
          credit := min ((s.adm.policers[i]).credit + (s.adm.policers[i]).refill) (s.adm.policers[i]).ceiling }
      else s.adm.policers[i]) ∧
  ∀ (s : State) (rest : List Msg),
    (∀ (place : Nat) (c : CopyReq), takeFirst (selCopyAdd place) s.net = some (c, rest) →
      exec (.copyAdd place) s = .next (match s.adm.recordOf c.ref with
        | some _ =>
          { s.took rest [.copyAddAns c true] with
            adm :=
              { s.adm with
                records := s.adm.records.map fun r => if r.id = c.ref.id then { r with count := r.count + 1 } else r } }
        | none => s.took rest [.copyAddAns c false])) ∧
    (∀ (frame : Nat) (ref : FrameRef), takeFirst (selRelease frame) s.net = some (ref, rest) →
      exec (.referenceRelease frame) s = .next (match s.adm.recordOf ref with
        | none => s.took rest []
        | some r =>
          if 1 < r.count then
            { s.took rest [] with
              adm :=
                { s.adm with
                  records := s.adm.records.map fun x => if x.id = ref.id then { x with count := x.count - 1 } else x } }
          else
            { s.took rest (if r.watch then [.watchReturned] else []) with
              adm :=
                { s.adm with
                  free := s.adm.free + r.blocks,
                  reserve := if r.source = .reserve then s.adm.reserve - r.blocks else s.adm.reserve,
                  inUse := match r.source with
                    | .pool i => s.adm.inUse.set i (s.adm.inUse[i] - r.blocks)
                    | .reserve => s.adm.inUse,
                  records := s.adm.records.filter fun x => !(x.id == r.id) } })) ∧
    (∀ (ref : FrameRef), takeFirst selWatch s.net = some (ref, rest) →
      exec .releaseWatch s = .next (match s.adm.recordOf ref with
        | none => s.took rest [.watchReturned]
        | some _ =>
          { s.took rest [] with
            adm :=
              { s.adm with
                records := s.adm.records.map fun r => if r.id = ref.id then { r with watch := true } else r } }))

/-- The policer, pool and queue tables are staged alike: a shadow is created as a copy of the active configuration, discarded,
written entry by entry in request order, and read by bank, an active policer with its credit (R111, R112, R148). -/
def Obligations.PolicerPoolAndQueueStaging : Prop :=
  ∀ (s : State) (rest : List Msg),
    (takeFirst (selShadowCreate .admission) s.net = some ((), rest) →
      exec .admissionShadowCreate s = .next (match s.adm.shadow with
        | some _ => s.took rest [.shadowCreateAns .admission false]
        | none =>
          { s.took rest [.shadowCreateAns .admission true] with
            adm := { s.adm with shadow := some { policers := s.adm.policerConfig, quotas := s.adm.quotas } } })) ∧
    (takeFirst (selShadowDiscard .admission) s.net = some ((), rest) →
      exec .admissionShadowDiscard s = .next
        { s.took rest [.shadowDiscardAns .admission] with adm := { s.adm with shadow := none } }) ∧
    (∀ es, takeFirst selPolicerWrite s.net = some (es, rest) →
      exec .policerWrite s = .next (match s.adm.shadow with
        | none => s.took rest [.shadowWriteAns .admission .noShadow]
        | some sh =>
          { s.took rest [.shadowWriteAns .admission .done] with
            adm :=
              { s.adm with
                shadow := some
                  { sh with
                    policers := es.foldl
                      (fun v e => v.set e.index { enabled := e.enabled, ceiling := e.ceiling, refill := e.refill })
                      sh.policers } } })) ∧
    (∀ es, takeFirst selPoolWrite s.net = some (es, rest) →
      exec .poolWrite s = .next (match s.adm.shadow with
        | none => s.took rest [.shadowWriteAns .admission .noShadow]
        | some sh =>
          { s.took rest [.shadowWriteAns .admission .done] with
            adm :=
              { s.adm with
                shadow := some { sh with quotas := es.foldl (fun v e => v.set e.index e.quota) sh.quotas } } })) ∧
    (∀ u b i, takeFirst (selEntryRead u (.policer i)) s.net = some (b, rest) →
      exec (.admissionEntryRead u (.policer i)) s = .next (s.took rest [answerTo u .admission (.policer i)
        (match b, s.adm.shadow with
         | .active, _ =>
           .policer
             { index := i, enabled := (s.adm.policers[i]).enabled, ceiling := (s.adm.policers[i]).ceiling,
               refill := (s.adm.policers[i]).refill } (some (s.adm.policers[i]).credit)
         | .shadow, none => .noShadow
         | .shadow, some sh =>
           .policer
             { index := i, enabled := (sh.policers[i]).enabled, ceiling := (sh.policers[i]).ceiling,
               refill := (sh.policers[i]).refill } none)])) ∧
    (∀ u b i, takeFirst (selEntryRead u (.pool i)) s.net = some (b, rest) →
      exec (.admissionEntryRead u (.pool i)) s = .next (s.took rest [answerTo u .admission (.pool i)
        (match b, s.adm.shadow with
         | .active, _ => .pool { index := i, quota := s.adm.quotas[i] }
         | .shadow, none => .noShadow
         | .shadow, some sh => .pool { index := i, quota := sh.quotas[i] })])) ∧
    (takeFirst (selStateRead .admission) s.net = some ((), rest) →
      exec .admissionStateRead s = .next
        (s.took rest [.readAns .admission (.memory s.adm.free s.adm.reserve s.adm.inUse)])) ∧
    (takeFirst (selShadowCreate .egress) s.net = some ((), rest) →
      exec .egressShadowCreate s = .next (match s.egr.shadow with
        | some _ => s.took rest [.shadowCreateAns .egress false]
        | none =>
          { s.took rest [.shadowCreateAns .egress true] with
            egr :=
              { s.egr with
                shadow := some ⟨s.egr.ports.l0.limits, s.egr.ports.l1.limits, s.egr.ports.t.limits⟩ } })) ∧
    (takeFirst (selShadowDiscard .egress) s.net = some ((), rest) →
      exec .egressShadowDiscard s = .next
        { s.took rest [.shadowDiscardAns .egress] with egr := { s.egr with shadow := none } }) ∧
    (∀ es, takeFirst selQueueWrite s.net = some (es, rest) →
      exec .queueWrite s = .next (match s.egr.shadow with
        | none => s.took rest [.shadowWriteAns .egress .noShadow]
        | some v =>
          { s.took rest [.shadowWriteAns .egress .done] with
            egr :=
              { s.egr with
                shadow := some
                  (es.foldl (fun v e => v.set e.port ((v.get e.port).set e.cls e.limit)) v) } })) ∧
    (∀ u b p c, takeFirst (selLimitRead u p c) s.net = some (b, rest) →
      exec (.egressEntryRead u p c) s = .next (s.took rest [answerTo u .egress (.limit p c)
        (match b, s.egr.shadow with
         | .active, _ => .limit { port := p, cls := c, limit := ((s.egr.ports.get p).limits).get c }
         | .shadow, none => .noShadow
         | .shadow, some v => .limit { port := p, cls := c, limit := (v.get p).get c })]))

/-- The three swaps. Bank and parameters change together, the generation rises by one, and the report carries generation, the
four agent parameters and the change list (R41); policers, quotas and limits change at once; a policer newly enabled starts
at its ceiling, any other keeps its credit up to the new ceiling; in-use counts, frame records and queued copies stay (R113,
R114, R149). Each shadow goes, and a swap without one changes nothing. -/
def Obligations.SwapsTakeEffectAtOnce : Prop :=
  ∀ (s : State) (rest : List Msg),
    (takeFirst (selSwap .classifier) s.net = some ((), rest) →
      exec .classifierSwap s = .next (match s.cls.shadow with
        | none => s.took rest [.swapReport none]
        | some sh =>
          { s.took rest
              [.swapReport (some
                { gen := s.cls.gen + 1,
                  params :=
                    { noticeDestination := sh.params.noticeDestination, noticeInterval := sh.params.noticeInterval,
                      sessionTimeout := sh.params.sessionTimeout, managementClass := sh.params.managementClass },
                  changes := changeList s.cls.bank sh.bank })] with
            cls := { s.cls with bank := sh.bank, params := sh.params, gen := s.cls.gen + 1, shadow := none } })) ∧
    (takeFirst (selSwap .admission) s.net = some ((), rest) →
      (s.adm.shadow = none → exec .admissionSwap s = .next (s.took rest [.swapDone .admission false])) ∧
      (∀ sh, s.adm.shadow = some sh → ∃ t, exec .admissionSwap s = .next t ∧
        t = { s.took rest [.swapDone .admission true] with
              adm := { s.adm with policers := t.adm.policers, quotas := sh.quotas, shadow := none } } ∧
        ∀ i : Fin 64, t.adm.policers[i] =
          { enabled := (sh.policers[i]).enabled, ceiling := (sh.policers[i]).ceiling, refill := (sh.policers[i]).refill,
            credit :=
              if (s.adm.policers[i]).enabled = false ∧ (sh.policers[i]).enabled = true then (sh.policers[i]).ceiling
              else min (s.adm.policers[i]).credit (sh.policers[i]).ceiling })) ∧
    (takeFirst (selSwap .egress) s.net = some ((), rest) →
      exec .egressSwap s = .next (match s.egr.shadow with
        | none => s.took rest [.swapDone .egress false]
        | some v =>
          { s.took rest [.swapDone .egress true] with
            egr :=
              { s.egr with
                shadow := none,
                ports :=
                  ⟨{ s.egr.ports.l0 with limits := v.l0 }, { s.egr.ports.l1 with limits := v.l1 },
                    { s.egr.ports.t with limits := v.t }⟩ } }))

/-- The admission unit's counters are read, cleared when asked, created and deleted (R105, R112, R206), and its restarts return
every block and raise the restart count (R116, R117). That a create or delete on its way at a FULL restart is taken afterwards
is the model's choice (log 30). -/
def Obligations.AdmissionCountersAndRestarts : Prop :=
  ∀ (s : State) (rest : List Msg),
    (∀ k d clear, takeFirst (selCounterRead .admission) s.net = some ((.key k d, clear), rest) →
      (k = ownReplyKey s.node ∧ d = .outbound →
        exec .admissionCounterRead s = .next
          { s.took rest [.readAns .admission (.counters [0, s.adm.replyNoBuffer])] with
            adm := { s.adm with replyNoBuffer := if clear then 0 else s.adm.replyNoBuffer } }) ∧
      (¬ (k = ownReplyKey s.node ∧ d = .outbound) →
        exec .admissionCounterRead s = .next
          { s.took rest
              [.readAns .admission (.counters
                (match s.adm.counts.find? (fun c => decide (c.key = k ∧ c.dir = d)) with
                 | some c => [c.overRate, c.noBuffer]
                 | none => [0, 0]))] with
            adm :=
              { s.adm with
                counts := s.adm.counts.map fun c =>
                  if clear = true ∧ c.key = k ∧ c.dir = d then { c with overRate := 0, noBuffer := 0 } else c } })) ∧
    (∀ who k,
      let d : Direction := if who = .merge then .inbound else .outbound
      (takeFirst (selCountChange who k) s.net = some (true, rest) →
        exec (.counterEntryCreate who k) s = .next
          { s.took rest [] with
            adm :=
              { s.adm with
                counts :=
                  if s.adm.counts.any (fun c => decide (c.key = k ∧ c.dir = d)) then s.adm.counts
                  else s.adm.counts ++ [{ key := k, dir := d, overRate := 0, noBuffer := 0 }] } }) ∧
      (takeFirst (selCountChange who k) s.net = some (false, rest) →
        exec (.counterEntryDelete who k) s = .next
          { s.took rest [] with
            adm := { s.adm with counts := s.adm.counts.filter fun c => !decide (c.key = k ∧ c.dir = d) } })) ∧
    (takeFirst (selRestart .admission .traffic) s.net = some ((), rest) →
      exec .admissionTrafficRestart s = .next
        { s.took rest [.restartDone .admission] with
          adm :=
            { s.adm with
              policers := s.adm.policers.map fun p => { p with credit := p.ceiling }, inUse := .replicate 8 0,
              reserve := 0, free := 2048, records := [], restarts := s.adm.restarts + 1 } }) ∧
    (takeFirst (selRestart .admission .full) s.net = some ((), rest) →
      exec .admissionFullRestart s = .next
        { s.took rest [.restartDone .admission] with
          adm :=
            { policers := .replicate 64 { enabled := false, ceiling := 64, refill := 1, credit := 0 },
              quotas := #v[2032, 0, 0, 0, 0, 0, 0, 0], inUse := #v[0, 0, 0, 0, 0, 0, 0, 0], reserve := 0, free := 2048,
              records := [], nextId := s.adm.nextId, restarts := s.adm.restarts + 1, shadow := none, counts := [],
              replyNoBuffer := 0 } })

/-! ## Replicator -/

/-- The replicator takes a reconciliation request (new generation and preferred lane, the entries that concern it pending),
reconciles the lowest pending key with nothing in hand, reports the last, and follows the lanes' links at any time (R119,
R120, R121, R129). A request that comes with work in hand waits. -/
def Obligations.ReplicatorReconcilesAndFollowsLinks : Prop :=
  (∀ (s : State) (g : Gen) (cs : List ChangeEntry) (l : Lane) (rest : List Msg),
    takeFirst (selReconcile .replicator) s.net = some ((g, cs, l), rest) →
    let concerned := cs.filter fun e => match e.cat with
      | .removed => (s.rep.find e.key).isSome
      | .added d => d.direction == .outbound
      | .otherChanged d => d.direction == .outbound
      | .recoveryChanged _ => false
    exec .replicatorReconciliationRequest s = .next (match s.rep.hand with
      | some _ => { s with rep := { s.rep with requestWaiting := true } }
      | none =>
        { s.took rest (if concerned = [] then [.reconcileDone .replicator] else []) with
          rep := { s.rep with gen := g, preferred := l, pending := concerned, requestWaiting := false } })) ∧
  (∀ (s : State) (e : ChangeEntry) (es : List ChangeEntry), s.rep.pending = e :: es → s.rep.hand = none →
    s.rep.requestWaiting = false →
    let rest := s.rep.pending.filter fun x => !(x.key == e.key)
    let fin : List Msg := if rest = [] then [.reconcileDone .replicator] else []
    let others := s.rep.streams.filter fun x => !(x.key == e.key)
    (e.cat = .removed →
      exec .replicatorReconcileKey s = .next
        { s with
          rep := { s.rep with pending := rest, streams := others },
          net := s.net ++ [.countDelete .replicator e.key] ++ fin }) ∧
    (∀ d f, e.cat = .added d → d.fields = .outbound f →
      exec .replicatorReconcileKey s = .next
        { s with
          rep :=
            { s.rep with
              pending := rest,
              streams := others ++
                [{ key := e.key, params := { f with policer := d.policer, pool := d.pool, cls := d.cls },
                   counter := { nxt := 0, restart := true }, counts := .zero }] },
          net := s.net ++ [.countCreate .replicator e.key] ++ fin }) ∧
    (∀ d f, e.cat = .otherChanged d → d.fields = .outbound f →
      exec .replicatorReconcileKey s = .next
        { s with
          rep :=
            { s.rep with
              pending := rest,
              streams := s.rep.streams.map fun x =>
                if x.key = e.key then
                  { x with params := { f with policer := d.policer, pool := d.pool, cls := d.cls } }
                else x },
          net := s.net ++ fin })) ∧
  (∀ (s : State) (l : Lane) (st : Link) (rest : List Msg), takeFirst (selLinkReplicator l) s.net = some (st, rest) →
    exec (.replicatorLinkChange l) s = .next { s.took rest [] with rep := { s.rep with links := s.rep.links.set l st } })

/-- The replicator's takes. A directory departure is WITHDRAWN or asks for a grant at its length plus 4; an unknown departure
goes to the preferred lane if UP, else to the other, else is dropped; a handoff asks for a reserve grant. Nothing is taken
with work in hand or a request waiting; an entry stamped one above the generation waits, and so does every entry behind a handoff
or behind another entry: the take then changes nothing (R50, R120 to R122, R126, R127). The model's choices: a departure whose
own key is pending is taken, any other waits for the pending keys (log 11); the handoff slot is the replicator's (log 12). -/
def Obligations.ReplicatorTakesWork : Prop :=
  (∀ (s : State) (d : DirDeparture) (rest : List RepEntry), s.rep.queue = .directory d :: rest →
    s.rep.takesEntry d.gen = false ∨ (s.rep.pending ≠ [] ∧ ∀ e ∈ s.rep.pending, e.key ≠ d.key) →
    exec .takeDirectoryDeparture s = .next s) ∧
  (∀ (s : State) (d : UnkDeparture) (rest : List RepEntry), s.rep.queue = .unknown d :: rest →
    s.rep.takesEntry d.gen = false ∨ s.rep.pending ≠ [] → exec .takeUnknownDeparture s = .next s) ∧
  (∀ s : State,
    ((∀ d rest, s.rep.queue ≠ .directory d :: rest) → exec .takeDirectoryDeparture s = .next s) ∧
    ((∀ d rest, s.rep.queue ≠ .unknown d :: rest) → exec .takeUnknownDeparture s = .next s) ∧
    (s.rep.handoff = none ∨ s.rep.hand ≠ none ∨ s.rep.requestWaiting = true ∨ s.rep.pending ≠ [] →
      exec .takeHandoff s = .next s)) ∧
  (∀ (s : State) (g : Gen), s.rep.takesEntry g = true ↔
    s.rep.hand = none ∧ s.rep.requestWaiting = false ∧ s.rep.handoff = none ∧ g ≠ s.rep.gen + 1) ∧
  (∀ (s : State) (d : DirDeparture) (rest : List RepEntry), s.rep.queue = .directory d :: rest →
    s.rep.takesEntry d.gen = true → (s.rep.pending = [] ∨ ∃ e ∈ s.rep.pending, e.key = d.key) →
    let s0 : State := { s with rep := { s.rep with queue := rest, handNo := s.rep.handNo + 1 } }
    let s1 := match s.rep.pending.find? (fun e => e.key == d.key) with
      | some e => s0.repStep e
      | none => s0
    exec .takeDirectoryDeparture s = .next (match s1.rep.find d.key with
      | none => { s1 with rep := { s1.rep with withdrawn := bump s1.rep.withdrawn } }
      | some st =>
        { s1 with
          rep := { s1.rep with hand := some { job := .directory d st.params, ref := none, waiting := [], placed := 0 } },
          net := s1.net ++
            [.grant { who := .replicator, hand := s1.rep.handNo, stream := some d.key, len := d.len + 4,
                      policer := st.params.policer, pool := st.params.pool }] })) ∧
  (∀ (s : State) (d : UnkDeparture) (rest : List RepEntry), s.rep.queue = .unknown d :: rest →
    s.rep.takesEntry d.gen = true → s.rep.pending = [] →
    let lane : Option Lane :=
      if s.rep.links.get s.rep.preferred = .up then some s.rep.preferred
      else if s.rep.links.get (otherLane s.rep.preferred) = .up then some (otherLane s.rep.preferred)
      else none
    exec .takeUnknownDeparture s = .next (match lane with
      | none => { s with rep := { s.rep with queue := rest, handNo := s.rep.handNo + 1 } }
      | some l =>
        { s with
          rep :=
            { s.rep with
              queue := rest, handNo := s.rep.handNo + 1,
              hand := some { job := .unknown d l, ref := none, waiting := [], placed := 0 } },
          net := s.net ++
            [.grant { who := .replicator, hand := s.rep.handNo + 1, stream := none, len := d.len, policer := none,
                      pool := d.pool }] })) ∧
  (∀ (s : State) (h : Handoff), s.rep.handoff = some h → s.rep.hand = none → s.rep.requestWaiting = false →
    s.rep.pending = [] →
    exec .takeHandoff s = .next
      { s with
        rep :=
          { s.rep with
            handoff := none, handNo := s.rep.handNo + 1,
            hand := some { job := .handoff h, ref := none, waiting := [], placed := 0 } },
        net := s.net ++ [.reserveGrant .replicator (s.rep.handNo + 1) (h.bytes.length + 8)] })

/-- A granted frame is stamped with the counter's next sequence and restart mark, written, counted sent and asked onto each UP
lane of its mask, each DOWN lane counting a refused copy; with no lane UP the work ends at once. A refused grant ends the
work with no stamp, so it leaves no gap (R119, R123 to R128). That L0's request is sent before L1's is the model's choice, where
R125 asks for no order (log 31). A late grant answer, of work that a restart has abandoned, returns
the blocks granted and does nothing else (R132). -/
def Obligations.ReplicatorStampsGrantedFrames : Prop :=
  (∀ (s : State) (rest : List Msg) (n : Nat), s.rep.hand = none ∨ n ≠ s.rep.handNo →
    (∀ r, takeFirst (selGrantAns .replicator) s.net = some ((n, r), rest) →
      exec .replicatorGrantAnswer s = .next (s.took rest (match r with
        | .granted ref => [.release ref]
        | _ => []))) ∧
    (∀ r, takeFirst (selReserveAns .replicator) s.net = some ((n, r), rest) →
      exec .replicatorReserveGrantAnswer s = .next (s.took rest (match r with
        | some ref => [.release ref]
        | none => [])))) ∧
  ∀ (s : State) (rest : List Msg) (w : RepHand), s.rep.hand = some w → w.ref = none →
    let lanes (m0 m1 : Bool) (st : Link) : List Lane :=
      (if m0 = true ∧ s.rep.links.l0 = st then [.l0] else []) ++ (if m1 = true ∧ s.rep.links.l1 = st then [.l1] else [])
    let refused (c : OutCounts) (ls : List Lane) : OutCounts :=
      { c with
        refused :=
          ⟨if ls.contains .l0 then bump c.refused.l0 else c.refused.l0,
            if ls.contains .l1 then bump c.refused.l1 else c.refused.l1⟩ }
    let ask (ref : FrameRef) (c : Sys2Proof.Class) (marked : Bool) (ls : List Lane) : List Msg :=
      ls.map fun l => .enqueue
        { port := lanePort l, cls := c, ref := ref, mark := if marked then some l else none, strip := false,
          tag := .lane s.rep.handNo l }
    let written (ref : FrameRef) (bytes : List Byte) := s.adm.updRecord ref fun r => { r with bytes := bytes }
    (∀ d p st ref, w.job = .directory d p → s.rep.find d.key = some st → (s.rep.streams.map (·.key)).Nodup →
      takeFirst (selGrantAns .replicator) s.net = some ((s.rep.handNo, .granted ref), rest) →
      let up := lanes p.l0 p.l1 .up
      exec .replicatorGrantAnswer s = .next
        { s.took rest (if up = [] then [.release ref] else ask ref (p.cls.queue d.cls) true up) with
          adm := written ref (stampFrame d.buf st.counter.nxt st.counter.restart),
          rep :=
            { s.rep.upd d.key fun x =>
                { x with
                  counter := { nxt := st.counter.nxt + 1, restart := false },
                  counts := refused { x.counts with sent := bump x.counts.sent } (lanes p.l0 p.l1 .down) } with
              hand := if up = [] then none else some { job := w.job, ref := some ref, waiting := up, placed := 0 } } }) ∧
    (∀ d l ref, w.job = .unknown d l →
      takeFirst (selGrantAns .replicator) s.net = some ((s.rep.handNo, .granted ref), rest) →
      exec .replicatorGrantAnswer s = .next
        { s.took rest (ask ref d.cls false [l]) with
          adm := written ref d.buf,
          rep := { s.rep with hand := some { job := w.job, ref := some ref, waiting := [l], placed := 0 } } }) ∧
    (∀ r, takeFirst (selGrantAns .replicator) s.net = some ((s.rep.handNo, r), rest) → r = .overRate ∨ r = .noBuffer →
      exec .replicatorGrantAnswer s = .next { s.took rest [] with rep := { s.rep with hand := none } }) ∧
    (∀ h ref, w.job = .handoff h →
      takeFirst (selReserveAns .replicator) s.net = some ((s.rep.handNo, some ref), rest) →
      let up := lanes true true .up
      exec .replicatorReserveGrantAnswer s = .next
        { s.took rest
            (if up = [] then [.release ref, .handoffAns (.sent ref 0)] else ask ref (frameClass h.bytes) true up) with
          adm := written ref (stampFrame h.bytes s.rep.reply.nxt s.rep.reply.restart),
          rep :=
            { s.rep with
              reply := { nxt := s.rep.reply.nxt + 1, restart := false },
              replyCounts :=
                refused { s.rep.replyCounts with sent := bump s.rep.replyCounts.sent } (lanes true true .down),
              hand := if up = [] then none else some { job := w.job, ref := some ref, waiting := up, placed := 0 } } }) ∧
    (∀ h, w.job = .handoff h → takeFirst (selReserveAns .replicator) s.net = some ((s.rep.handNo, none), rest) →
      exec .replicatorReserveGrantAnswer s = .next
        { s.took rest [.handoffAns .unsent] with
          rep := { s.rep with hand := none, unsent := bump s.rep.unsent } })

/-- An answered lane copy is counted placed or refused for its stream, and after the last the replicator releases its reference
and answers a handoff "sent". The counters are read and cleared, and the restarts abandon the work and start every send counter
again. The reference of abandoned work is released once, at the last of its late answers, which the record `late` counts down
(R109, R110, R132): an inference of the model (log 29), as is the release of what an answer names when no such work is
recorded (R125, R126, R128, R130 to R132, R208). -/
def Obligations.ReplicatorEndsWorkAndRestarts : Prop :=
  ∀ (s : State) (rest : List Msg),
    (∀ l n ref r, takeFirst (selLaneAns l) s.net = some ((n, ref, r), rest) →
      (∀ w own, s.rep.hand = some w → w.ref = some own → n = s.rep.handNo →
        let placed := if r = .placed then w.placed + 1 else w.placed
        let left := w.waiting.erase l
        let refuse (c : OutCounts) : OutCounts := { c with refused := c.refused.set l (bump (c.refused.get l)) }
        let m : Replicator :=
          if r = .placed then s.rep
          else match w.job with
            | .directory d _ => s.rep.upd d.key fun st => { st with counts := refuse st.counts }
            | .unknown _ _ => s.rep
            | .handoff _ => { s.rep with replyCounts := refuse s.rep.replyCounts }
        exec (.replicatorEnqueueAnswer l) s = .next
          (if left = [] then
            { s.took rest (match w.job with
                | .handoff _ => [.release own, .handoffAns (.sent own placed)]
                | _ => [.release own]) with
              rep := { m with hand := none } }
          else { s.took rest [] with rep := { m with hand := some { w with waiting := left, placed := placed } } })) ∧
      (s.rep.hand = none ∨ n ≠ s.rep.handNo →
        exec (.replicatorEnqueueAnswer l) s = .next (match s.rep.late.find? fun x => x.hand == n with
          | none => s.took rest [.release ref]
          | some x =>
            let left := x.waiting.erase l
            if left = [] then
              { s.took rest [.release x.ref] with
                rep := { s.rep with late := s.rep.late.filter fun y => y.hand ≠ n } }
            else
              { s.took rest [] with
                rep :=
                  { s.rep with
                    late := s.rep.late.map fun y => if y.hand = n then { y with waiting := left } else y } }))) ∧
    (∀ k d clear, takeFirst (selCounterRead .replicator) s.net = some ((.key k d, clear), rest) →
      exec .replicatorCounterRead s = .next
        (if k = ownReplyKey s.node then
          { s.took rest
              [.readAns .replicator (.counters
                [s.rep.replyCounts.sent, s.rep.replyCounts.refused.l0, s.rep.replyCounts.refused.l1])] with
            rep := { s.rep with replyCounts := if clear then .zero else s.rep.replyCounts } }
        else match s.rep.find k with
          | none => s.took rest [.readAns .replicator .noSet]
          | some st =>
            { s.took rest
                [.readAns .replicator (.counters [st.counts.sent, st.counts.refused.l0, st.counts.refused.l1])] with
              rep := if clear then s.rep.upd k fun x => { x with counts := .zero } else s.rep })) ∧
    (∀ clear, takeFirst (selCounterRead .replicator) s.net = some ((.device, clear), rest) →
      exec .replicatorCounterRead s = .next
        { s.took rest [.readAns .replicator (.counters [s.rep.withdrawn, s.rep.unsent])] with
          rep :=
            { s.rep with
              withdrawn := if clear then 0 else s.rep.withdrawn, unsent := if clear then 0 else s.rep.unsent } }) ∧
    let inHand := match s.rep.hand with
      | some w => (match w.job with | .handoff _ => true | _ => false)
      | none => false
    let dropped : List Msg := if s.rep.handoff.isSome = true ∨ inHand = true then [.handoffAns .abandoned] else []
    let late := s.rep.late ++ match s.rep.hand with
      | some w => w.ref.toList.map fun own => { hand := s.rep.handNo, ref := own, waiting := w.waiting }
      | none => []
    (takeFirst (selRestart .replicator .traffic) s.net = some ((), rest) →
      exec .replicatorTrafficRestart s = .next
        { s.took rest (dropped ++ [.restartDone .replicator]) with
          rep :=
            { s.rep with
              queue := [], hand := none, handoff := none, reply := { nxt := 0, restart := true }, late := late,
              streams := s.rep.streams.map fun st => { st with counter := { nxt := 0, restart := true } } } }) ∧
    (takeFirst (selRestart .replicator .full) s.net = some ((), rest) →
      exec .replicatorFullRestart s = .next
        { s.took rest (dropped ++ [.restartDone .replicator]) with
          rep :=
            { streams := [], gen := 0, pending := [], preferred := .l0, links := s.rep.links,
              reply := { nxt := 0, restart := true }, replyCounts := .zero, withdrawn := 0, unsent := 0, queue := [],
              handoff := none, hand := none, handNo := s.rep.handNo, requestWaiting := false, late := late } })

/-! ## Egress unit -/

/-- An enqueue request is refused down, full (the queue's limit, then the port's 160 slots) or void, in that order, or reserves
the tail of its class queue and asks for the copy reference (R139 to R142). -/
def Obligations.EnqueueRequestsAreTestedInOrder : Prop :=
  ∀ (who : Block) (s : State) (e : Enqueue) (rest : List Msg), takeFirst (selEnqueue who) s.net = some (e, rest) →
    let x := s.egr.ports.get e.port
    let slots := x.queues.c0.length + x.queues.c1.length + x.queues.c2.length + x.queues.c3.length
    let refused : Option EnqResult :=
      if x.link = .down then some .down
      else if x.limits.get e.cls ≤ (x.queues.get e.cls).length ∨ 160 ≤ slots then some .full
      else if e.ref.restart ≠ s.egr.restarts then some .void
      else none
    exec (.enqueueRequest who) s = .next (match refused with
      | some r => s.took rest [.enqueueAns e.tag e.ref r]
      | none =>
        { s.took rest [.copyAdd { place := s.egr.nextPlace, port := e.port, ref := e.ref, tag := e.tag }] with
          egr :=
            { s.egr with
              nextPlace := s.egr.nextPlace + 1,
              ports := s.egr.ports.set e.port
                { x with
                  queues := x.queues.set e.cls
                    (x.queues.get e.cls ++
                      [{ place := s.egr.nextPlace, placed := false, ref := e.ref, mark := e.mark, strip := e.strip }]) } } })

/-- A transmitter that is IDLE on an UP port takes the PLACED head of its highest class queue that has one, passing over a
RESERVED head; otherwise it stays as it is (R143). The copy-add answer places the copy where it stands, or removes its place
and refuses it; the enqueuer is answered then (R141). What is sent is the frame that the reference names, of the present restart
count (R107, R144). That the transmitter chooses again within the event that removes a RESERVED place is the model's choice (log
26). -/
def Obligations.CopiesArePlacedAndChosenByClass : Prop :=
  (∀ (a : Admission) (ref : FrameRef) (r : FrameRec), (a.records.map (·.id)).Nodup → r ∈ a.records → r.id = ref.id →
    ref.restart = a.restarts → a.stored ref = r.bytes) ∧
  (∀ (q q' : PerClass (List CopyPlace)) (c : CopyPlace),
    choose q = some (c, q') ↔
      ∃ k rest, q.get k = c :: rest ∧ c.placed = true ∧ q' = q.set k rest ∧
        ∀ k' d ds, classCode k < classCode k' → q.get k' = d :: ds → d.placed = false) ∧
  (∀ (s : State) (p : Port),
    let x := s.egr.ports.get p
    (x.link = .down ∨ x.tx ≠ none ∨ choose x.queues = none → s.transmit p = s) ∧
    (∀ c q, x.link = .up → x.tx = none → choose x.queues = some (c, q) →
      s.transmit p =
        { s with
          egr :=
            { s.egr with
              nextTx := s.egr.nextTx + 1,
              ports := s.egr.ports.set p
                { x with
                  queues := q,
                  tx := some { number := s.egr.nextTx, copy := c, wire := wireBytes (s.adm.stored c.ref) c } } } })) ∧
  (∀ (place : Nat) (s : State) (c : CopyReq) (held : Bool) (rest : List Msg),
    takeFirst (selCopyAddAns place) s.net = some ((c, held), rest) →
    let x := s.egr.ports.get c.port
    let present := ∃ k, ∃ y ∈ x.queues.get k, y.place = c.place
    let queues (f : List CopyPlace → List CopyPlace) (ms : List Msg) : State :=
      { s.took rest ms with
        egr :=
          { s.egr with
            ports := s.egr.ports.set c.port
              { x with queues := ⟨f x.queues.c0, f x.queues.c1, f x.queues.c2, f x.queues.c3⟩ } } }
    let removed := queues fun q => q.filter fun y => !(y.place == c.place)
    (¬ present →
      exec (.copyAddAnswer place) s = .next
        (s.took rest ((if held then [.release c.ref] else []) ++ [.enqueueAns c.tag c.ref .down]))) ∧
    (present → held = false →
      exec (.copyAddAnswer place) s = .next ((removed [.enqueueAns c.tag c.ref .void]).transmit c.port)) ∧
    (present → held = true → x.link = .down →
      exec (.copyAddAnswer place) s = .next (removed [.release c.ref, .enqueueAns c.tag c.ref .down])) ∧
    (present → held = true → x.link = .up →
      exec (.copyAddAnswer place) s = .next
        (State.transmit
          (queues (fun q => q.map fun y => if y.place = c.place then { y with placed := true } else y)
            [.enqueueAns c.tag c.ref .placed]) c.port)))

/-- A completion that names the transmission under way counts it and frees the transmitter, which chooses again; any other
completion is ignored; a change to
DOWN aborts the transmission and flushes every PLACED copy, releasing each reference; a change to UP lets the port transmit
(R145 to R147). Counters are read and cleared, and the restarts empty every port (R150 to R152). -/
def Obligations.PortsTransmitAndFollowLinks : Prop :=
  ∀ (s : State) (p : Port),
    let x := s.egr.ports.get p
    let port (ms : List Msg) (net : List Msg) (y : PortEgress) : State :=
      { s with net := net ++ ms, egr := { s.egr with ports := s.egr.ports.set p y } }
    (x.tx = none → ∀ n, exec (.transmitCompletion p n) s = .next s) ∧
    (∀ t n, x.tx = some t →
      (n = t.number →
        exec (.transmitCompletion p n) s = .next
          (State.transmit
            (port [.release t.copy.ref] s.net { x with tx := none, transmitted := bump x.transmitted }) p)) ∧
      (n ≠ t.number → exec (.transmitCompletion p n) s = .next s)) ∧
    (∀ rest, takeFirst (selLinkEgress p) s.net = some (.down, rest) →
      let waiting := x.queues.c3 ++ x.queues.c2 ++ x.queues.c1 ++ x.queues.c0
      let flushed := waiting.filter fun c => c.placed
      let kept (q : List CopyPlace) := q.filter fun c => !c.placed
      exec (.egressLinkDown p) s = .next
        (port ((x.tx.toList.map fun t => .release t.copy.ref) ++ flushed.map fun c => .release c.ref) rest
          { x with
            link := .down, tx := none, aborted := if x.tx = none then x.aborted else bump x.aborted,
            flushed := count x.flushed flushed.length,
            queues := ⟨kept x.queues.c0, kept x.queues.c1, kept x.queues.c2, kept x.queues.c3⟩ })) ∧
    (∀ rest, takeFirst (selLinkEgress p) s.net = some (.up, rest) →
      exec (.egressLinkUp p) s = .next (State.transmit (port [] rest { x with link := .up }) p)) ∧
    (∀ clear rest, takeFirst (selCounterRead .egress) s.net = some ((.port p, clear), rest) →
      exec .egressCounterRead s = .next
        (port [.readAns .egress (.counters [x.transmitted, x.aborted, x.flushed])] rest
          (if clear then { x with transmitted := 0, aborted := 0, flushed := 0 } else x))) ∧
    (∀ rest, takeFirst (selRestart .egress .traffic) s.net = some ((), rest) →
      let empty (y : PortEgress) : PortEgress := { y with queues := ⟨[], [], [], []⟩, tx := none }
      exec .egressTrafficRestart s = .next
        { s.took rest [.restartDone .egress] with
          egr :=
            { s.egr with
              restarts := s.egr.restarts + 1,
              ports := ⟨empty s.egr.ports.l0, empty s.egr.ports.l1, empty s.egr.ports.t⟩ } }) ∧
    (∀ rest, takeFirst (selRestart .egress .full) s.net = some ((), rest) →
      let fresh (st : Link) : PortEgress :=
        { link := st, queues := ⟨[], [], [], []⟩, limits := ⟨40, 40, 40, 40⟩, tx := none, transmitted := 0, aborted := 0,
          flushed := 0 }
      exec .egressFullRestart s = .next
        { s.took rest [.restartDone .egress] with
          egr :=
            { ports := ⟨fresh s.egr.ports.l0.link, fresh s.egr.ports.l1.link, fresh s.egr.ports.t.link⟩, shadow := none,
              restarts := s.egr.restarts + 1, nextPlace := s.egr.nextPlace, nextTx := s.egr.nextTx } })

/-- What the part sends of a frame it stored is a well-formed frame of the same stream. A stamped lane copy is 4 bytes longer
than the frame from T, or than the agent's frame with its check, has its header but for the trail flag and its payload, the send
counter's sequence and restart flag, zero spare bits, the lane's mark and a good check; a stripped copy at T is 4 bytes shorter
than the trailed frame, has its header but for the trail flag and its payload, and a good check. A copy with a lane mark is sent
marked, one with strip set stripped, any other as stored (R1 to R5, R7, R8, R124, R144). -/
def Obligations.SentCopiesAreWellFormedFrames : Prop :=
  let checked (w : List Byte) : Prop := w.drop (w.length - 4) = crcBytes (w.take (w.length - 4)) ∧ w.length = frameLength w
  let sameHeader (f w : List Byte) : Prop :=
    frameKind w = frameKind f ∧ frameVersion w = frameVersion f ∧ frameClass w = frameClass f ∧ frameKey w = frameKey f ∧
      payloadLen w = payloadLen f ∧ framePayload w = framePayload f ∧ (∀ i, i < 8 → i ≠ 1 → byteAt w i = byteAt f i) ∧
      ∀ j, j < 8 → j ≠ 5 → (byteAt w 1).getLsbD j = (byteAt f 1).getLsbD j
  (∀ (f : List Byte) (q : Seq) (r : Bool) (l : Lane), trailed f = false →
    f.length = frameLength f ∨ f.length + 4 = frameLength f →
    let w := markedCopy (stampFrame f q r) l
    w.length = frameLength f + 4 ∧ checked w ∧ sameHeader f w ∧ trailed w = true ∧ frameSeq w = q ∧ frameRestart w = r ∧
      byteAt w 11 = (if r = true then 1 else 0) ∧ frameMark w = (match l with | .l0 => 0 | .l1 => 1)) ∧
  (∀ (f : List Byte), trailed f = true → f.length = frameLength f →
    let w := strippedCopy f
    w.length + 4 = f.length ∧ checked w ∧ sameHeader f w ∧ trailed w = false) ∧
  (∀ (f : List Byte) (c : CopyPlace),
    (∀ l, c.mark = some l → wireBytes f c = markedCopy f l) ∧
    (c.mark = none → c.strip = true → wireBytes f c = strippedCopy f) ∧
    (c.mark = none → c.strip = false → wireBytes f c = f))

/-! ## Management agent: requests -/

/-- A placement joins the agent request queue while it holds fewer than 4 entries (R155). The agent takes the head entry when no
request is in hand, no reply is under way, no discard is to be answered and no deferred event waits (R157, R163), under the
command of its row (log 9, the model's choice), while a request command otherwise changes nothing (log 1), and tests it in order: a retransmission is answered from the cache or ignored
(R158), a malformed request is answered MALFORMED with its reason and index (R15, R159), and one that R160 refuses with its
status. A request is malformed by the first condition of R13 that holds, in R13's order, at the first entry that fails it; the
kinds, their tables, counts and lengths and their operands are R12's. That a READ-STATS PORT selector that names no port is out of
range is the model's choice, where R13's list of fields does not name it (log 23). -/
def Obligations.RequestsAreTestedBeforeTheyAreServed : Prop :=
  (∀ (n : Nat) (k : ReqKind), reqKindOf n = some k ↔
    (n, k) ∈ [(0x01, .openSession), (0x02, .closeSession), (0x10, .put), (0x11, .drop), (0x12, .clear), (0x13, .abandon),
      (0x14, .check), (0x15, .commit), (0x20, .read), (0x21, .readNext), (0x22, .readStats), (0x23, .status),
      (0x30, .restart)]) ∧
  (∀ (k : ReqKind) (t c : Nat),
    let entry := if t = 1 then 16 else if t = 2 then 8 else 4
    let row : Prop × Prop × Nat :=
      match k with
      | .put => (1 ≤ t ∧ t ≤ 5, 1 ≤ c ∧ c ≤ (if t = 1 then 8 else 16), c * entry + 4)
      | .drop => (t = 1, 1 ≤ c ∧ c ≤ 8, c * 4 + 4)
      | .clear => (t = 1, c = 1, 8)
      | .commit => (t = 0, c = 0, 4)
      | .read => (1 ≤ t ∧ t ≤ 5, c = 1, 5)
      | .readNext => (t = 1, 1 ≤ c ∧ c ≤ 8, 5)
      | .readStats => (t = 0, c = 0, 6)
      | .restart => (t = 0, c = 0, 1)
      | _ => (t = 0, c = 0, 0)
    (tableOk k t = true ↔ row.1) ∧ (countOk k t c = true ↔ row.2.1) ∧ requestLength k t c = 9 + row.2.2) ∧
  (∀ p : List Byte,
    (p.length < 9 → parseRequest p = .error (.short, 0)) ∧
    (9 ≤ p.length → reqKindOf (byteAt p 6).toNat = none → parseRequest p = .error (.unknownKind, 0)) ∧
    ∀ k, 9 ≤ p.length → reqKindOf (byteAt p 6).toNat = some k →
      let t := (byteAt p 7).toNat
      let c := (byteAt p 8).toNat
      let es := requestEntries k p
      (tableOk k t = true → countOk k t c = true → p.length ≠ requestLength k t c →
        parseRequest p = .error (.short, 0)) ∧
      (tableOk k t = false → parseRequest p = .error (.tableMismatch, 0)) ∧
      (tableOk k t = true → countOk k t c = false → parseRequest p = .error (.countRange, 0)) ∧
      (tableOk k t = true → countOk k t c = true → p.length = requestLength k t c →
        (∀ pre e post, es = pre ++ e :: post → (∀ x ∈ pre, rangeOk k t x = true) → rangeOk k t e = false →
          parseRequest p = .error (.fieldRange, pre.length)) ∧
        ((∀ x ∈ es, rangeOk k t x = true) →
          (∀ pre e post, es = pre ++ e :: post → (∀ x ∈ pre, keyOk k t x = true) → keyOk k t e = false →
            parseRequest p = .error (.zeroKey, pre.length)) ∧
          ((∀ x ∈ es, keyOk k t x = true) →
            (∀ pre e post, es = pre ++ e :: post → (∀ x ∈ pre, fillOk k t x = true) → fillOk k t e = false →
              parseRequest p = .error (.nonzeroFill, pre.length)) ∧
            ((∀ x ∈ es, fillOk k t x = true) →
              (reqToken p = 0 → parseRequest p = .error (.zeroToken, 0)) ∧
              (reqToken p ≠ 0 → parseRequest p = .ok (decodeOperands k p))))) ∧
        (k = .put →
          let len := if t = 1 then 16 else if t = 2 then 8 else 4
          es.length = c ∧ ∀ i, i < c → es[i]? = some ((p.drop (9 + i * len)).take len)) ∧
        (k = .drop → es.length = c ∧ ∀ i, i < c → es[i]? = some ((p.drop (9 + i * 4)).take 4)) ∧
        (k ≠ .put → k ≠ .drop → es = [(p.drop 9).take (requestLength k t c - (if k = .clear then 13 else 9))]))) ∧
  (∀ (t : Nat) (e : List Byte),
    (rangeOk .read t e = true ↔
      natAt e 0 1 ≤ 1 ∧ (t = 1 ∨ natAt e 4 1 ≤ (if t = 2 then 63 else if t = 4 then 11 else 7))) ∧
    (keyOk .read t e = true ↔ (t = 1 → natAt e 2 3 ≠ 0)) ∧
    (fillOk .read t e = true ↔ if t = 1 then natAt e 1 1 = 0 else natAt e 1 3 = 0) ∧
    (rangeOk .readNext t e = true ↔ natAt e 0 1 ≤ 1) ∧ keyOk .readNext t e = true ∧
    (fillOk .readNext t e = true ↔ natAt e 1 1 = 0) ∧
    (rangeOk .readStats t e = true ↔
      1 ≤ natAt e 0 1 ∧ natAt e 0 1 ≤ 3 ∧ natAt e 5 1 ≤ 1 ∧ (natAt e 0 1 = 2 → natAt e 4 1 ≤ 2)) ∧
    (keyOk .readStats t e = true ↔ (natAt e 0 1 = 1 → natAt e 2 3 ≠ 0)) ∧
    (fillOk .readStats t e = true ↔
      natAt e 1 (if natAt e 0 1 = 1 then 1 else if natAt e 0 1 = 2 then 3 else 4) = 0) ∧
    (rangeOk .restart t e = true ↔ natAt e 0 1 = 1 ∨ natAt e 0 1 = 2) ∧
    (rangeOk .put t e = entryRangeOk t e) ∧ (keyOk .put t e = true ↔ (t = 1 → natAt e 0 3 ≠ 0)) ∧
    (fillOk .put t e = entryFillOk t e) ∧ (keyOk .drop t e = true ↔ natAt e 1 3 ≠ 0) ∧
    (fillOk .drop t e = true ↔ natAt e 0 1 = 0) ∧ (fillOk .clear t e = true ↔ natAt e 0 4 = 0)) ∧
  (∀ (a : Agent) (p : List Byte), a.retransmission p = .fresh ↔
    p.length < 6 ∨ reqToken p = 0 ∨
      ((∀ c, a.cache = some c → ¬ (c.token = reqToken p ∧ c.number = reqNumber p)) ∧
        ∀ q, a.progress = some q → ¬ (q.token = reqToken p ∧ q.number = reqNumber p))) ∧
  (∀ (s : State) (n : Nat) (e : RequestEntry) (rest : List Msg), takeFirst selPlacement s.net = some ((n, e), rest) →
    exec .requestPlacement s = .next
      { s.took rest [.placementAns n (decide (s.agt.queue.length < 4))] with
        agt := { s.agt with queue := if s.agt.queue.length < 4 then s.agt.queue ++ [e] else s.agt.queue } }) ∧
  (∀ (a : Agent) (now : Nat), a.takesRequest now = true ↔
    a.hand = none ∧ a.ready = none ∧ (∀ o, a.output = some o → o.reply = false) ∧ a.discard = none ∧ a.deferred = [] ∧
      ¬ (a.expiryDeferred = true ∧ a.expiryDue now = true)) ∧
  (∀ (s : State) (row : RequestRow),
    s.agt.queue = [] ∨ (∃ e rest, s.agt.queue = e :: rest ∧ requestRow (framePayload e.buf) ≠ row) ∨
      s.agt.takesRequest s.clock.millis = false →
    exec row.instr s = .next s) ∧
  (∀ (p : List Byte) (r : Req), parseRequest p = .ok r → requestRow p = rowOf r) ∧
  (∀ (a : Agent) (p : List Byte), 6 ≤ p.length → reqToken p ≠ 0 →
    (∀ c, a.cache = some c → c.token = reqToken p → c.number = reqNumber p → a.retransmission p = .cached c.payload) ∧
    ((∀ c, a.cache = some c → ¬ (c.token = reqToken p ∧ c.number = reqNumber p)) →
      (∃ q, a.progress = some q ∧ q.token = reqToken p ∧ q.number = reqNumber p) → a.retransmission p = .ignored)) ∧
  (∀ (a : Agent) (p : List Byte) (c : Access),
    a.refusal (reqToken p) c =
      if c = .anyone ∨ (a.mode = .session ∧ a.holds (reqToken p) = true) ∨ (c = .opening ∧ a.mode = .noSession) then none
      else if c = .holder ∧ a.mode = .noSession then some .noSession
      else if c = .holder ∧ a.mode = .session then some .notHolder
      else some .busy) ∧
  (∀ (s : State) (e : RequestEntry) (rest : List RequestEntry) (p : List Byte), s.headRequest e rest p →
    let b := s.handling e rest .replying
    let c := (requestRow p).instr
    (∀ payload, s.agt.retransmission p = .cached payload →
      exec c s = .next
        (State.outputChoice
          { b with agt := { b.agt with ready := some { side := e.side, payload := payload, restart := false } } })) ∧
    (s.agt.retransmission p = .ignored → exec c s = .next { b with agt := { b.agt with hand := none } }) ∧
    (∀ r i, s.agt.retransmission p = .fresh → parseRequest p = .error (r, i) →
      exec c s = .next (b.replies e .malformed (4096 * reasonCode r + i) [])) ∧
    (∀ r st, s.agt.retransmission p = .fresh → parseRequest p = .ok r → s.agt.refusal (reqToken p) r.access = some st →
      exec c s = .next (b.replies e st 0 [])))

/-- OPEN opens the session or confirms it to its holder (R161); CLOSE ends it and the shadow, its reply waiting for the three
discards (R163); ABANDON discards the shadow or finds none (R187); RESTART enters RESTARTING and is answered OK (R173). -/
def Obligations.SessionAndRestartRequests : Prop :=
  ∀ (s : State) (e : RequestEntry) (rest : List RequestEntry) (p : List Byte),
    let b := s.handling e rest .replying
    (s.headIs e rest p .openSession →
      (s.agt.mode = .noSession →
        exec .openSession s = .next
          (State.replies
            { b with
              agt :=
                { b.agt with
                  mode := .session,
                  session := some
                    { token := reqToken p, timer := some (s.clock.millis + 1000 * s.agt.params.sessionTimeout) } } }
            e .ok 0 [])) ∧
      (s.agt.inSession p → exec .openSession s = .next (b.replies e .ok 0 []))) ∧
    (s.headIs e rest p .closeSession → s.agt.inSession p →
      let d := s.handling e rest .discarding
      exec .closeSession s = .next
        { d with
          agt :=
            { d.agt with
              mode := .noSession, session := none, shadow := .absent,
              discard := some { waiting := [.classifier, .admission, .egress], why := .closing } },
          net := s.net ++ [.shadowDiscard .classifier, .shadowDiscard .admission, .shadowDiscard .egress] }) ∧
    (s.headIs e rest p .abandon → s.agt.inSession p →
      (s.agt.shadow = .absent → exec .abandon s = .next (b.replies e .noChange 0 [])) ∧
      (s.agt.shadow ≠ .absent →
        let d := s.handling e rest .discarding
        exec .abandon s = .next
          { d with
            agt :=
              { d.agt with discard := some { waiting := [.classifier, .admission, .egress], why := .abandoning } },
            net := s.net ++ [.shadowDiscard .classifier, .shadowDiscard .admission, .shadowDiscard .egress] })) ∧
    (∀ k, s.headIs e rest p (.restart k) → s.agt.inSession p →
      exec (match k with | .traffic => .restartTraffic | .full => .restartFull) s = .next
        (State.reply
          { b with
            agt :=
              { b.agt with
                mode := .restarting, session := some { token := reqToken p, timer := none },
                progress := some { token := reqToken p, number := reqNumber p, kind := .restart, side := e.side },
                restart := some { kind := k, phase := .replying } } }
          e.side (reqToken p) (reqNumber p) (reqKindCode p) .ok 0 [] true))

/-- A staging request of the holder: BAD-CHECK when its record check fails, else the shadow's creation when it is ABSENT, else the
write to the block that owns its table (R14, R180 to R185). CHECK and COMMIT by shadow status and digest: answered at once, or
the reads of the check or of the preferred lane begun with the session timer stopped (R188, R192, R193). -/
def Obligations.StagingCheckAndCommitRequests : Prop :=
  ∀ (s : State) (e : RequestEntry) (rest : List RequestEntry) (p : List Byte), s.agt.inSession p →
    let b := s.handling e rest .replying
    let write (r : Req) : Option Msg :=
      match r with
      | .putDirectory rs => some (.recordWrite rs)
      | .putPolicers es => some (.policerWrite es)
      | .putPools es => some (.poolWrite es)
      | .putQueues es => some (.queueWrite es)
      | .putDevice es => some (.deviceWrite es)
      | .dropKeys ks => some (.removal ks)
      | .clearBank => some .emptyBank
      | _ => none
    let quiet : Option Session := some { token := reqToken p, timer := none }
    let self (k : ProgressKind) : Option InProgress :=
      some { token := reqToken p, number := reqNumber p, kind := k, side := e.side }
    let limitQueues : List (Port × Sys2Proof.Class) :=
      [(.l0, .c0), (.l0, .c1), (.l0, .c2), (.l0, .c3), (.l1, .c0), (.l1, .c1), (.l1, .c2), (.l1, .c3), (.t, .c0),
        (.t, .c1), (.t, .c2), (.t, .c3)]
    let checking (k : ProgressKind) : State :=
      { b with
        agt :=
          { b.agt with
            mode := .checking, session := quiet, progress := self k, hand := none,
            check := some
              { records := [], policers := [], quotas := [], limits := [], unknownPool := none,
                waiting := .records :: .unknownPool :: ((List.finRange 8).map fun i => .pool i) ++
                  limitQueues.map fun q => .limit q.1 q.2 } },
        net := s.net ++ (.nextRead .check .shadow 0 8 :: .deviceRead .check .shadow 3 ::
          ((List.finRange 8).map fun i => .entryRead .check .shadow (.pool i)) ++
          limitQueues.map fun q => .limitRead .check .shadow q.1 q.2) }
    (∀ r m, s.headIs e rest p r → write r = some m →
      exec (rowOf r).instr s = .next
        (if crc32 (recordArea p) ≠ recordCheck p then b.replies e .badCheck 0 []
        else if s.agt.shadow = .absent then
          { s.handling e rest (.creating r [.classifier, .admission, .egress]) with
            net := s.net ++ [.shadowCreate .classifier, .shadowCreate .admission, .shadowCreate .egress] }
        else { s.handling e rest (.writing false) with net := s.net ++ [m] })) ∧
    (s.headIs e rest p .checkShadow →
      exec .checkShadow s = .next (match s.agt.shadow with
        | .absent => b.replies e .noChange 0 []
        | .checked _ => b.replies e .ok 0 []
        | .dirty _ => checking .check)) ∧
    (∀ d, s.headIs e rest p (.commit d) →
      exec .commit s = .next (match s.agt.shadow with
        | .absent => b.replies e .noChange 0 []
        | .dirty rem => if ~~~ rem = d then checking .commit else b.replies e .digestMismatch 0 []
        | .checked rem =>
          if ~~~ rem = d then
            { b with
              agt :=
                { b.agt with
                  mode := .committing, session := quiet, progress := self .commit, hand := none,
                  commit := some
                    { lane := .l0, swapped := false, admission := false, egress := false, merge := false,
                      replicator := false } },
              net := s.net ++ [.deviceRead .commit .shadow 1] }
          else b.replies e .digestMismatch 0 []))

/-- A reading request sends its reads to the blocks that own what it reads and waits for them (R169 to R172); it is served to
anyone, unless it asks for counters to be cleared, which the holder alone may in SESSION (R160, R208). -/
def Obligations.ReadingRequestsAskTheOwners : Prop :=
  ∀ (s : State) (e : RequestEntry) (rest : List RequestEntry) (p : List Byte) (r : Req), s.headIs e rest p r →
    let asks : Option (List Block × List Msg) :=
      match r with
      | .readDirectory b k => some ([.classifier], [.recordRead b k])
      | .readPolicer b i => some ([.admission], [.entryRead .request b (.policer i)])
      | .readPool b i => some ([.admission], [.entryRead .request b (.pool i)])
      | .readQueue b q c => some ([.egress], [.limitRead .request b q c])
      | .readDevice b i => some ([.classifier], [.deviceRead .request b i])
      | .readNext b k n => some ([.classifier], [.nextRead .request b k n])
      | .statsKey k clear => some ([.merge], [.counterRead .merge (.key k .inbound) clear])
      | .statsPort q clear => some ([.receiver q, .classifier, .egress],
          [.counterRead (.receiver q) (.port q) clear, .counterRead .classifier (.port q) clear,
            .counterRead .egress (.port q) clear])
      | .statsDevice clear => some ([.classifier, .merge, .replicator],
          [.counterRead .classifier .device clear, .counterRead .merge .device clear,
            .counterRead .replicator .device clear])
      | .status => some ([.receiver .l0, .receiver .l1, .receiver .t, .admission, .merge],
          [.stateRead (.receiver .l0), .stateRead (.receiver .l1), .stateRead (.receiver .t), .stateRead .admission,
            .stateRead .merge])
      | _ => none
    let clears : Bool :=
      match r with
      | .statsKey _ clear => clear
      | .statsPort _ clear => clear
      | .statsDevice clear => clear
      | _ => false
    ∀ bs ms, asks = some (bs, ms) → (clears = true → s.agt.inSession p) →
      exec (rowOf r).instr s = .next { s.handling e rest (.reading r bs []) with net := s.net ++ ms }

/-! ## Management agent: answers, reports, output, timers -/

/-- An answer to a read of the request in hand is kept until the last, and the reply is then built: READ and READ-NEXT by the
owner's answer (R169, R170), READ-STATS from the owners' counters, a key's set sought at the merge engine, then at the
replicator, and completed at the admission unit (R171, R205 to R208), STATUS from the agent and the reads (R172). The answers
to shadow creates, writes and discards carry a staging request, ABANDON or CLOSE on (R163, R180, R181, R186, R187). The results
are laid out as R17 says: the counters of a set in the order of R205 to R207, a counter kept in two parts as their saturating
sum (R204), and the STATUS bytes. The model's choices: a write answered "no shadow" is replied NO-CHANGE (log 16); the agent's
part of replies-unsent is read, and cleared, as the reply is built (log 15). -/
def Obligations.AnswersCarryTheRequestInHandOn : Prop :=
  (let sum (x y : Word32) : Word32 := BitVec.ofNat 32 (min (x.toNat + y.toNat) 4294967295)
   (∀ (p : List Byte) (cs : List Word32),
     scopeBytes p = (p.drop 9).take 5 ∧
       counterBytes cs = BitVec.ofNat 8 cs.length :: cs.flatMap fun x => toBE 4 x.toNat) ∧
   (∀ (q : Port) (got : List (Block × ReadAnswer)) (a b c d o x y z : Word32),
     got.lookup (.receiver q) = some (.counters [a, b, c, d]) → got.lookup .classifier = some (.counters [o]) →
     got.lookup .egress = some (.counters [x, y, z]) → portCounters q got = [a, b, c, sum d o, x, y, z]) ∧
   (∀ (got : List (Block × ReadAnswer)) (c0 c1 c2 c3 c4 c5 c6 c7 c8 m w u own : Word32),
     got.lookup .classifier = some (.counters [c0, c1, c2, c3, c4, c5, c6, c7, c8]) →
     got.lookup .merge = some (.counters [m]) → got.lookup .replicator = some (.counters [w, u]) →
     deviceCounters own got = [c0, c1, c2, c3, c4, c5, c6, c7, sum m w, c8, sum u own]) ∧
   (∀ (b : Block) (cs : List Word32) (overRate noBuffer : Word32), b = .merge ∨ b = .replicator →
     keyCounters [(b, .counters cs), (.admission, .counters [overRate, noBuffer])] = cs ++ [overRate, noBuffer]) ∧
   (∀ (node : Byte) (a : Agent) (got : List (Block × ReadAnswer)) (l0 l1 lt : Link) (free reserve holds : Nat)
       (pools : Vector Nat 8),
     got.lookup (.receiver .l0) = some (.link l0) → got.lookup (.receiver .l1) = some (.link l1) →
     got.lookup (.receiver .t) = some (.link lt) → got.lookup .admission = some (.memory free reserve pools) →
     got.lookup .merge = some (.holds holds) →
     let up (st : Link) (n : Nat) : Nat := match st with | .up => n | .down => 0
     statusBytes node a got =
       [node,
         (match a.mode with | .noSession => 0 | .session => 1 | .checking => 2 | .committing => 3 | .restarting => 4),
         (match a.shadow with | .absent => 0 | .dirty _ => 1 | .checked _ => 2),
         (match a.session with | none => 0 | some _ => 1), BitVec.ofNat 8 (up l0 1 + up l1 2 + up lt 4), 0] ++
         toBE 2 free ++ toBE 2 reserve ++ toBE 2 holds ++ (pools.toList.flatMap fun n => toBE 2 n) ++
         [BitVec.ofNat 8 a.notices.length, 0] ++
         a.notices.flatMap fun e =>
           [BitVec.ofNat 8 (match e.kind with
              | .laneChange => 1 | .unknownStream => 2 | .poolExhausted => 3 | .holdExhausted => 4 | .streamReset => 5
              | .crossedLane => 6 | .sessionEnd => 7), 0] ++
             toBE 2 e.count ++ toBE 4 e.detail.toNat ++ toBE 4 e.time.toNat)) ∧
  (∀ (s : State) (rest : List Msg) (h : AgentHand) (b : Block), s.agt.hand = some h →
    let stage (g : HandStage) (ms : List Msg) : State :=
      { s.took rest ms with agt := { s.agt with hand := some { h with stage := g } } }
    (∀ c r w, h.stage = .creating r w → takeFirst (selCreateAns b) s.net = some (c, rest) →
      exec (.shadowCreateAnswer b) s = .next
        (if w.erase b = [] then stage (.writing true) (writeOf r) else stage (.creating r (w.erase b)) [])) ∧
    (∀ r fresh, h.stage = .writing fresh → takeFirst (selWriteAns b) s.net = some (r, rest) →
      exec (.shadowWriteAnswer b) s = .next
        (if r = .done then
          State.answer
            { s.took rest [] with
              agt := { s.agt with shadow := .dirty (crcRun s.agt.shadow.remainder (recordArea h.payload)) } } h .ok 0 []
        else if fresh = true then
          { stage .discarding [.shadowDiscard .classifier, .shadowDiscard .admission, .shadowDiscard .egress] with
            agt :=
              { s.agt with
                hand := some { h with stage := .discarding },
                discard := some { waiting := [.classifier, .admission, .egress], why := .undo r } } }
        else match r with
          | .notFound i => (s.took rest []).answer h .notFound i []
          | .shadowFull => (s.took rest []).answer h .shadowFull 0 []
          | _ => (s.took rest []).answer h .noChange 0 [])) ∧
    (∀ r a, h.stage = .reading r [b] [] → takeFirst (selReadAns b) s.net = some (a, rest) →
      (match r with
       | .statsKey _ _ => False | .statsPort _ _ => False | .statsDevice _ => False | .status => False | _ => True) →
      exec (.ownerReadAnswer b) s = .next (match a with
        | .noShadow => (s.took rest []).answer h .noChange 0 []
        | .record d => (s.took rest []).answer h .ok 0 (encodeDir d)
        | .records ds => (s.took rest []).answer h .ok 0 (toBE 1 ds.length ++ ds.flatMap encodeDir)
        | .device d => (s.took rest []).answer h .ok 0 (encodeDevice d)
        | .policer d none => (s.took rest []).answer h .ok 0 (encodePolicer d)
        | .policer d (some credit) => (s.took rest []).answer h .ok 0 (encodePolicer d ++ toBE 4 credit)
        | .pool d => (s.took rest []).answer h .ok 0 (encodePool d)
        | .limit d => (s.took rest []).answer h .ok 0 (encodeQueue d)
        | _ => (s.took rest []).answer h .notFound 0 [])) ∧
    (∀ k clear w got a, h.stage = .reading (.statsKey k clear) w got →
      takeFirst (selReadAns b) s.net = some (a, rest) →
      exec (.ownerReadAnswer b) s = .next (match b, a with
        | .merge, .counters cs =>
          stage (.reading (.statsKey k clear) [.admission] (got ++ [(.merge, .counters cs)]))
            [.counterRead .admission (.key k .inbound) clear]
        | .merge, _ =>
          stage (.reading (.statsKey k clear) [.replicator] []) [.counterRead .replicator (.key k .outbound) clear]
        | .replicator, .counters cs =>
          stage (.reading (.statsKey k clear) [.admission] (got ++ [(.replicator, .counters cs)]))
            [.counterRead .admission (.key k .outbound) clear]
        | .replicator, _ => (s.took rest []).answer h .notFound 0 []
        | _, _ =>
          if w.erase b = [] then
            (s.took rest []).answer h .ok 0 (scopeBytes h.payload ++ counterBytes (keyCounters (got ++ [(b, a)])))
          else stage (.reading (.statsKey k clear) (w.erase b) (got ++ [(b, a)])) [])) ∧
    (∀ r w got a, h.stage = .reading r w got → takeFirst (selReadAns b) s.net = some (a, rest) →
      let more := stage (.reading r (w.erase b) (got ++ [(b, a)])) []
      (∀ q clear, r = .statsPort q clear →
        exec (.ownerReadAnswer b) s = .next
          (if w.erase b = [] then
            (s.took rest []).answer h .ok 0 (scopeBytes h.payload ++ counterBytes (portCounters q (got ++ [(b, a)])))
          else more)) ∧
      (∀ clear, r = .statsDevice clear →
        exec (.ownerReadAnswer b) s = .next
          (if w.erase b = [] then
            State.answer
              { s.took rest [] with agt := { s.agt with unsent := if clear then 0 else s.agt.unsent } } h .ok 0
              (scopeBytes h.payload ++ counterBytes (deviceCounters s.agt.unsent (got ++ [(b, a)])))
          else more)) ∧
      (r = .status →
        exec (.ownerReadAnswer b) s = .next
          (if w.erase b = [] then
            (s.took rest []).answer h .ok 0 (statusBytes s.node s.agt (got ++ [(b, a)]))
          else more)))) ∧
  (∀ (s : State) (rest : List Msg) (b : Block) (d : DiscardWork), s.agt.discard = some d →
    takeFirst (selDiscardAns b) s.net = some ((), rest) →
    let done (sh : ShadowStatus) : State :=
      { s.took rest [] with agt := { s.agt with discard := none, shadow := sh } }
    (d.waiting.erase b ≠ [] →
      exec (.shadowDiscardAnswer b) s = .next
        { s.took rest [] with
          agt := { s.agt with discard := some { waiting := d.waiting.erase b, why := d.why } } }) ∧
    (d.waiting.erase b = [] →
      (d.why = .timeout → exec (.shadowDiscardAnswer b) s = .next (done s.agt.shadow)) ∧
      (∀ h, s.agt.hand = some h →
        (d.why = .closing → exec (.shadowDiscardAnswer b) s = .next ((done s.agt.shadow).answer h .ok 0 [])) ∧
        (d.why = .abandoning → exec (.shadowDiscardAnswer b) s = .next ((done .absent).answer h .ok 0 [])) ∧
        (∀ i, d.why = .undo (.notFound i) →
          exec (.shadowDiscardAnswer b) s = .next ((done s.agt.shadow).answer h .notFound i [])) ∧
        (d.why = .undo .shadowFull →
          exec (.shadowDiscardAnswer b) s = .next ((done s.agt.shadow).answer h .shadowFull 0 [])))))

/-- An event that changes the agent's state waits while a request is in hand, and is taken from there first afterwards (R157, log
6): so the answer to a check's read; with none it changes nothing (log 1). An answer to a check's read is entered, further reads follow from the records it carries, and the last answer completes
the check (R188, R190, R192). A check passes exactly when the constraints of R189 hold. The first failure is named: a directory
record's by its position, then POOL-SUM, then QUEUE-SUM by the first port above 160, then UNKNOWN-POOL-EMPTY (R16, R189). -/
def Obligations.ChecksReadAndJudgeTheShadow : Prop :=
  (∀ (α : Type) (s : State) (sel : Msg → Option α) (k : α → State → State),
    (∀ h m rest, s.agt.hand = some h → takeFirst (fun m => (sel m).map fun _ => m) s.net = some (m, rest) →
      s.agentEvent sel k = .next { s with net := rest, agt := { s.agt with deferred := s.agt.deferred ++ [m] } }) ∧
    (∀ a rest, s.agt.hand = none → takeFirst sel s.agt.deferred = some (a, rest) →
      s.agentEvent sel k = .next (k a { s with agt := { s.agt with deferred := rest } })) ∧
    (s.agt.hand = none → takeFirst sel s.agt.deferred = none → s.agentEvent sel k = s.onMsg sel k)) ∧
  (∀ (s : State) (r : CheckRead),
    (∀ h, s.agt.hand = some h → exec (.checkReadAnswer r) s = .next (match takeFirst (selCheckAns r) s.net with
      | some (a, rest) => s.defers (.checkAns r a) rest
      | none => s)) ∧
    (s.agentLacks (selCheckAns r) → exec (.checkReadAnswer r) s = .next s)) ∧
  (∀ (s b : State) (r : CheckRead) (a : ReadAnswer) (w : CheckWork) (q : InProgress),
    s.agentTakes (selCheckAns r) a b → s.agt.check = some w → s.agt.progress = some q →
    let w0 := { w with waiting := w.waiting.erase r }
    let next : CheckWork × List Msg :=
      match a with
      | .records ds =>
        let ps := ((ds.filterMap fun d => d.policer).dedup).filter fun i =>
          (w.policers.lookup i).isNone && !w0.waiting.contains (.policer i)
        let more := if ds.length = 8 then ds.getLast?.map fun d => d.key else none
        ({ w0 with
            records := w.records ++ ds,
            waiting := w0.waiting ++ (more.toList.map fun _ => .records) ++ ps.map .policer },
          (more.toList.map fun k => .nextRead .check .shadow k 8) ++
            ps.map fun i => .entryRead .check .shadow (.policer i))
      | .policer e _ => ({ w0 with policers := w.policers ++ [(e.index, e.enabled)] }, [])
      | .pool e => ({ w0 with quotas := w.quotas ++ [(e.index, e.quota)] }, [])
      | .limit e => ({ w0 with limits := w.limits ++ [((e.port, e.cls), e.limit)] }, [])
      | .device (.unknownPool i) => ({ w0 with unknownPool := some i }, [])
      | _ => (w0, [])
    (∀ ds, a = .records ds → ds.length ≤ 8) →
    (next.1.waiting ≠ [] →
      exec (.checkReadAnswer r) s = .next { b with agt := { b.agt with check := some next.1 }, net := b.net ++ next.2 }) ∧
    (next.1.waiting = [] →
      let ended (sh : ShadowStatus) : State :=
        { b with agt := { b.agt with check := none, shadow := sh }, net := b.net ++ next.2 }
      (∀ f i, next.1.fault s.node = some (f, i) →
        exec (.checkReadAnswer r) s = .next
          ((ended s.agt.shadow).answerProgress q .invalid (4096 * reasonCode f + i))) ∧
      (next.1.fault s.node = none → q.kind = .check →
        exec (.checkReadAnswer r) s = .next ((ended (.checked s.agt.shadow.remainder)).answerProgress q .ok 0)) ∧
      (next.1.fault s.node = none → q.kind = .commit →
        exec (.checkReadAnswer r) s = .next
          { ended (.checked s.agt.shadow.remainder) with
            agt :=
              { b.agt with
                check := none, shadow := .checked s.agt.shadow.remainder, mode := .committing,
                session := s.agt.session.map fun x => { x with timer := none },
                commit := some
                  { lane := .l0, swapped := false, admission := false, egress := false, merge := false,
                    replicator := false } },
            net := b.net ++ next.2 ++ [.deviceRead .commit .shadow 1] }))) ∧
  (∀ (w : CheckWork) (node : Byte),
    let recordOk (d : DirRecord) : Prop :=
      d.key ≠ ownRequestKey node ∧ d.key ≠ ownReplyKey node ∧
        (∀ i, d.policer = some i → w.policers.lookup i = some true) ∧ 0 < w.quota d.pool
    let sum (p : Port) : Nat := w.limit p .c0 + w.limit p .c1 + w.limit p .c2 + w.limit p .c3
    (w.fault node = none ↔
      (∀ d ∈ w.records, recordOk d) ∧ ((List.finRange 8).map w.quota).sum ≤ 2032 ∧ (∀ p, sum p ≤ 160) ∧
        ∀ i, w.unknownPool = some i → 0 < w.quota i) ∧
    (∀ pre d post, w.records = pre ++ d :: post → (∀ x ∈ pre, recordOk x) →
      (d.key = ownRequestKey node ∨ d.key = ownReplyKey node →
        w.fault node = some (.reservedKey, pre.length)) ∧
      (¬ (d.key = ownRequestKey node ∨ d.key = ownReplyKey node) →
        (∃ i, d.policer = some i ∧ w.policers.lookup i ≠ some true) →
        w.fault node = some (.policerDisabled, pre.length)) ∧
      (¬ (d.key = ownRequestKey node ∨ d.key = ownReplyKey node) →
        (∀ i, d.policer = some i → w.policers.lookup i = some true) → w.quota d.pool = 0 →
        w.fault node = some (.poolEmpty, pre.length))) ∧
    ((∀ d ∈ w.records, recordOk d) →
      let quotas := ((List.finRange 8).map w.quota).sum
      (2032 < quotas → w.fault node = some (.poolSum, 0)) ∧
      (quotas ≤ 2032 →
        (160 < sum .l0 → w.fault node = some (.queueSum, 0)) ∧
        (sum .l0 ≤ 160 → 160 < sum .l1 → w.fault node = some (.queueSum, 1)) ∧
        (sum .l0 ≤ 160 → sum .l1 ≤ 160 → 160 < sum .t → w.fault node = some (.queueSum, 2)) ∧
        ((∀ p, sum p ≤ 160) → ∀ i, w.unknownPool = some i → w.quota i = 0 →
          w.fault node = some (.unknownPoolEmpty, 0)))))

/-- A commit goes from the preferred lane to the three swaps, from the swap report to the four parameters and the two
reconciliation requests, and completes at its fifth report: the shadow ABSENT, the session in SESSION with a full timeout, the
COMMIT answered OK (R193 to R195). A restart takes effect when its reply's frame has returned: the agent's own part, then the
classifier and the egress unit, then the others, and ends at the last report (R175 to R178). Each of these reports waits while a
request is in hand and changes nothing else then; afterwards a deferred one is taken before one on its way (R157, log 6); with
none of its kind its command changes nothing (log 1). -/
def Obligations.CommitsAndRestartsFollowTheirReports : Prop :=
  (∀ (s : State) (h : AgentHand), s.agt.hand = some h →
    exec .preferredLaneAnswer s = .next (match takeFirst selLaneRead s.net with
      | some (a, rest) => s.defers (.laneAns a) rest
      | none => s) ∧
    exec .swapReport s = .next (match takeFirst selSwapReport s.net with
      | some (r, rest) => s.defers (.swapReport r) rest
      | none => s) ∧
    (∀ b, exec (.swapDone b) s = .next (match takeFirst (selSwapDone b) s.net with
      | some (ok, rest) => s.defers (.swapDone b ok) rest
      | none => s)) ∧
    (∀ b, exec (.reconciliationDone b) s = .next (match takeFirst (selReconcileDone b) s.net with
      | some (_, rest) => s.defers (.reconcileDone b) rest
      | none => s)) ∧
    exec .watchReturned s = .next (match takeFirst selWatchReturned s.net with
      | some (_, rest) => s.defers .watchReturned rest
      | none => s) ∧
    (∀ b, exec (.restartDone b) s = .next (match takeFirst (selRestartDone b) s.net with
      | some (_, rest) => s.defers (.restartDone b) rest
      | none => s))) ∧
  (∀ (s : State),
    (s.agentLacks selLaneRead → exec .preferredLaneAnswer s = .next s) ∧
    (s.agentLacks selSwapReport → exec .swapReport s = .next s) ∧
    (∀ b, s.agentLacks (selSwapDone b) → exec (.swapDone b) s = .next s) ∧
    (∀ b, s.agentLacks (selReconcileDone b) → exec (.reconciliationDone b) s = .next s) ∧
    (s.agentLacks selWatchReturned → exec .watchReturned s = .next s) ∧
    (∀ b, s.agentLacks (selRestartDone b) → exec (.restartDone b) s = .next s)) ∧
  ∀ (s t : State),
    (∀ w, s.agt.commit = some w →
      let report (w' : CommitWork) (u : State) : State :=
        match s.agt.progress with
        | none => { u with agt := { u.agt with commit := some w' } }
        | some q =>
          if w'.swapped = true ∧ w'.admission = true ∧ w'.egress = true ∧ w'.merge = true ∧ w'.replicator = true then
            State.answerProgress { u with agt := { u.agt with commit := none, shadow := .absent } } q .ok 0
          else { u with agt := { u.agt with commit := some w' } }
      (∀ l, s.agentTakes selLaneRead (.device (.preferredLane l)) t →
        exec .preferredLaneAnswer s = .next
          { t with
            agt := { t.agt with commit := some { w with lane := l } },
            net := t.net ++ [.swap .classifier, .swap .admission, .swap .egress] }) ∧
      (∀ r, s.agentTakes selSwapReport (some r) t →
        exec .swapReport s = .next
          (report { w with swapped := true }
            { t with
              agt := { t.agt with params := r.params },
              net :=
                t.net ++
                  [.reconcile .merge r.gen r.changes w.lane, .reconcile .replicator r.gen r.changes w.lane] })) ∧
      (s.agentTakes (selSwapDone .admission) true t →
        exec (.swapDone .admission) s = .next (report { w with admission := true } t)) ∧
      (s.agentTakes (selSwapDone .egress) true t →
        exec (.swapDone .egress) s = .next (report { w with egress := true } t)) ∧
      (s.agentTakes (selReconcileDone .merge) () t →
        exec (.reconciliationDone .merge) s = .next (report { w with merge := true } t)) ∧
      (s.agentTakes (selReconcileDone .replicator) () t →
        exec (.reconciliationDone .replicator) s = .next (report { w with replicator := true } t))) ∧
    (∀ k,
      let asks (bs : List Block) : List Msg := bs.map fun b => .restart b k
      let later : List Block :=
        match k with
        | .traffic => [.merge, .replicator, .admission]
        | .full => [.merge, .replicator, .admission, .receiver .l0, .receiver .l1, .receiver .t]
      (s.agt.restart = some { kind := k, phase := .replying } → s.agentTakes selWatchReturned () t →
        exec .watchReturned s = .next
          { t with
            agt :=
              { (match k with
                  | .traffic => { t.agt with queue := [] }
                  | .full =>
                    { Agent.powerOn s.clock.millis with
                      mode := s.agt.mode, progress := s.agt.progress, output := s.agt.output,
                      deferred := t.agt.deferred }) with
                restart := some { kind := k, phase := .first [.classifier, .egress] } },
            net := t.net ++ asks [.classifier, .egress] }) ∧
      (∀ b w, s.agentTakes (selRestartDone b) () t →
        (s.agt.restart = some { kind := k, phase := .first w } →
          exec (.restartDone b) s = .next
            (if w.erase b = [] then
              { t with
                agt := { t.agt with restart := some { kind := k, phase := .second later } },
                net := t.net ++ asks later }
            else { t with agt := { t.agt with restart := some { kind := k, phase := .first (w.erase b) } } })) ∧
        (s.agt.restart = some { kind := k, phase := .second w } →
          exec (.restartDone b) s = .next
            (if w.erase b = [] then
              { t with
                agt :=
                  { t.agt with
                    progress := none, restart := none,
                    mode := match k with | .traffic => .session | .full => .noSession,
                    session := match k with
                      | .traffic => s.agt.session.map fun x =>
                        { x with timer := some (s.clock.millis + 1000 * s.agt.params.sessionTimeout) }
                      | .full => s.agt.session } }
            else { t with agt := { t.agt with restart := some { kind := k, phase := .second (w.erase b) } } }))))

/-- A reply is cached and made ready as it is built (R165), and the free output takes a waiting reply before a handed-out notice
(R166, R212), asking a reserve grant for a frame to T or handing a lane frame to the replicator (R167, R168). The answers place
the frame, free the output, count what was not sent, and watch the RESTART's own reply or let the restart take effect (R175). A
request in hand is answered with its own token, number and kind, and stays in hand until its reply is off the output (R15, R157);
a CHECK or COMMIT in progress is answered with the agent back in SESSION and a full session timeout (R190, R192, R195). The
model's choices: the handoff slot is the replicator's (log 12); the generation is read as the reply or notice is built (log 15);
the frame is enqueued under its header's class (log 20); the releases of the RESTART's own reply that are on their way when it is
refused at T, or sent with no copy placed, are taken within the answer's event (log 28): together they lower the count by their
number, and return the blocks when none is left (R109). -/
def Obligations.RepliesAndNoticesShareOneOutput : Prop :=
  (∀ (s : State) (h h' : AgentHand) (st : Status) (detail : Nat) (results : List Byte), s.agt.hand = some h' →
    s.answer h st detail results =
      State.reply { s with agt := { s.agt with hand := some { h' with stage := .replying } } } h.side (reqToken h.payload)
        (reqNumber h.payload) (byteAt h.payload 6).toNat st detail results false) ∧
  (∀ (s : State) (q : InProgress) (st : Status) (detail : Nat),
    s.answerProgress q st detail =
      State.reply
        { s with
          agt :=
            { s.agt with
              mode := .session, progress := none,
              session := s.agt.session.map fun x =>
                { x with timer := some (s.clock.millis + 1000 * s.agt.params.sessionTimeout) } } }
        q.side q.token q.number (match q.kind with | .check => 0x14 | .commit => 0x15 | .restart => 0x30) st detail []
        false) ∧
  (∀ (s : State) side token number kind st detail results restart,
    let p := toBE 4 token.toNat ++ toBE 2 number.toNat ++ toBE 1 kind ++ toBE 1 (statusCode st) ++ toBE 2 s.cls.gen.toNat ++
      toBE 2 detail ++ results
    s.reply side token number kind st detail results restart =
      State.outputChoice
        { s with
          agt :=
            { s.agt with
              cache := some { token := token, number := number, payload := p },
              ready := some { side := side, payload := p, restart := restart } } }) ∧
  (∀ (s : State),
    let frame (kind : Nat) (p : List Byte) : List Byte :=
      [BitVec.ofNat 8 (16 * kind + 1), BitVec.ofNat 8 (64 * classCode s.agt.params.managementClass)] ++
        toBE 3 (ownReplyKey s.node).toNat ++ [s.node] ++ toBE 2 p.length ++ p
    let put (reply restart toT : Bool) (f : List Byte) (a : Agent) : State :=
      if toT then
        { s with
          agt :=
            { a with output := some { reply := reply, restart := restart, path := .toT (f ++ crcBytes f) none } },
          net := s.net ++ [.reserveGrant .agent 0 (f ++ crcBytes f).length] }
      else
        { s with
          agt := { a with output := some { reply := reply, restart := restart, path := .toLanes } },
          rep := { s.rep with handoff := some { reply := reply, bytes := f } } }
    s.outputChoice = (match s.agt.output, s.agt.ready, s.agt.handed with
      | some _, _, _ => s
      | none, some r, _ => put true r.restart (r.side == .t) (frame 3 r.payload) { s.agt with ready := none }
      | none, none, some h =>
        put false false (h.dest == .tributary)
          (frame 4
            (toBE 1 (noticeCode h.entry.kind) ++ [0] ++ toBE 2 h.entry.count ++ toBE 4 h.entry.detail.toNat ++
              toBE 4 h.entry.time.toNat ++ toBE 2 s.cls.gen.toNat))
          { s.agt with handed := none }
      | none, none, none => s)) ∧
  (∀ (s : State) (ref : FrameRef),
    let k := s.net.countP fun m => m == .release ref
    let others := s.net.filter fun m => m ≠ .release ref
    s.takeReleases ref = (match s.adm.recordOf ref with
      | none => { s with net := others }
      | some r =>
        if k = 0 then s
        else if r.count ≤ k then
          { s with adm := s.adm.returnBlocks r, net := others ++ if r.watch = true then [.watchReturned] else [] }
        else { s with adm := s.adm.updRecord ref fun x => { x with count := x.count - k }, net := others })) ∧
  (∀ (s : State) (rest : List Msg) (o : OutFrame), s.agt.output = some o →
    let ended (unsent : Bool) (t : State) : State :=
      { t with
        agt :=
          { s.agt with
            output := none, hand := if o.reply = true then none else s.agt.hand,
            unsent := if unsent = true then bump s.agt.unsent else s.agt.unsent } }
    let released (ref : FrameRef) (t : State) : State := if o.restart = true then t.takeReleases ref else t
    let after (fire : Bool) (t : State) : State :=
      State.outputChoice (if o.restart = true ∧ fire = true then t.restartEvent else t)
    (∀ n bytes, o.path = .toT bytes none →
      (takeFirst (selReserveAns .agent) s.net = some ((n, none), rest) →
        exec .agentReserveGrantAnswer s = .next (after true (ended true (s.took rest [])))) ∧
      (∀ ref, takeFirst (selReserveAns .agent) s.net = some ((n, some ref), rest) →
        exec .agentReserveGrantAnswer s = .next
          { s.took rest
              [.enqueue
                { port := .t, cls := frameClass bytes, ref := ref, mark := none, strip := false, tag := .output }] with
            adm := s.adm.updRecord ref fun r => { r with bytes := bytes },
            agt := { s.agt with output := some { o with path := .toT bytes (some ref) } } })) ∧
    (∀ bytes own ref r, o.path = .toT bytes (some own) → takeFirst selOutputAns s.net = some ((ref, r), rest) →
      (r = .placed →
        exec .agentEnqueueAnswer s = .next
          (after false (ended false (s.took rest ((if o.restart = true then [.watch ref] else []) ++ [.release ref]))))) ∧
      (r ≠ .placed →
        exec .agentEnqueueAnswer s = .next (after true (ended true (released ref (s.took rest [.release ref])))))) ∧
    (∀ r, o.path = .toLanes → takeFirst selHandoffAns s.net = some (r, rest) →
      exec .handoffAnswer s = .next (match r with
        | .sent ref copies =>
          if copies = 0 then after true (ended false (released ref (s.took rest [])))
          else after false (ended false (s.took rest (if o.restart = true then [.watch ref] else [])))
        | .unsent => after true (ended false (s.took rest []))
        | .abandoned => after false (ended false (s.took rest [])))))

/-- The agent's timers and notices: the session timer's expiry in SESSION ends the session, discards the shadow and raises
SESSION-END, or waits for the request in hand (R157, R163, R164; log 13); with the timer stopped or its time still to come, or
out of SESSION, it changes nothing, and so does a pacing expiry before its time (R162, R164, R211; logs 1, 3); a raise adds to its kind's entry or appends one, the
first detail and time kept (R210); at each pacing expiry the head entry is handed out unless the destination is NONE or one
waits already (R211; log 21); a tick counts a millisecond (R19; log 3). -/
def Obligations.TimersAndNotices : Prop :=
  (∀ (s : State) (x : Session) (t : Nat), s.agt.mode = .session → s.agt.session = some x → x.timer = some t →
    t ≤ s.clock.millis →
    exec .sessionTimerExpiry s = .next (match s.agt.hand with
      | some _ => { s with agt := { s.agt with expiryDeferred := true } }
      | none =>
        { s with
          agt :=
            { s.agt with
              mode := .noSession, session := none, shadow := .absent, expiryDeferred := false,
              notices := raiseIn s.agt.timeCount .sessionEnd 0 s.agt.notices,
              discard := some { waiting := [.classifier, .admission, .egress], why := .timeout } },
          net := s.net ++ [.shadowDiscard .classifier, .shadowDiscard .admission, .shadowDiscard .egress] })) ∧
  (∀ (s : State),
    (s.agt.mode = .session → ∀ x t, s.agt.session = some x → x.timer = some t → s.clock.millis < t) →
    exec .sessionTimerExpiry s = .next s) ∧
  (∀ (s : State), s.clock.millis < s.agt.pacing → exec .pacingExpiry s = .next s) ∧
  (∀ (s : State) (k : NoticeKind) (d : Word32) (rest : List Msg), takeFirst (selNotice k d) s.net = some ((), rest) →
    exec (.noticeRaise k d) s = .next
      { s.took rest [] with agt := { s.agt with notices := raiseIn s.agt.timeCount k d s.agt.notices } }) ∧
  (∀ (now : Word32) (k : NoticeKind) (d : Word32) (ns : List NoticeEntry),
    ((∀ n ∈ ns, n.kind ≠ k) → raiseIn now k d ns = ns ++ [{ kind := k, count := 1, detail := d, time := now }]) ∧
    (∀ pre n post, ns = pre ++ n :: post → (∀ x ∈ pre, x.kind ≠ k) → n.kind = k →
      raiseIn now k d ns = pre ++ { n with count := min (n.count + 1) 65535 } :: post)) ∧
  (∀ (s : State), s.agt.pacing ≤ s.clock.millis →
    let a : Agent := { s.agt with pacing := s.agt.pacing + s.agt.params.noticeInterval }
    exec .pacingExpiry s = .next
      (State.outputChoice
        { s with
          agt := match s.agt.notices with
            | [] => a
            | n :: ns =>
              if s.agt.params.noticeDestination = .off ∨ s.agt.handed.isSome = true then a
              else
                { a with
                  notices := ns, handed := some { entry := n, dest := s.agt.params.noticeDestination } } })) ∧
  (∀ (s : State),
    exec .timeCountTick s = .next
      { s with
        agt := { s.agt with timeCount := s.agt.timeCount + 1 }, clock := { s.clock with millis := s.clock.millis + 1 } })

/-! ## Encodings -/

/-- Encoding and decoding an entry of each table agree, at every value that R21 and R22 admit: a record or entry whose values
lie in their ranges encodes to bytes that are in range and have zero fill, and decodes to itself; and an entry whose bytes pass
R13 decodes to values in their ranges and encodes back to those bytes (R20 to R22). -/
def Obligations.TableEntriesRoundTrip : Prop :=
  (∀ r : DirRecord, r.wf = true →
    decodeDir (encodeDir r) = r ∧ (encodeDir r).length = 16 ∧ dirRangeOk (encodeDir r) = true ∧
      dirFillOk (encodeDir r) = true) ∧
  (∀ e : List Byte, e.length = 16 → dirRangeOk e = true → dirFillOk e = true → natAt e 0 3 ≠ 0 →
    (decodeDir e).wf = true ∧ encodeDir (decodeDir e) = e) ∧
  (∀ e : List Byte,
    (e.length = 8 → entryRangeOk 2 e = true → entryFillOk 2 e = true →
      let d := decodePolicer e
      64 ≤ d.ceiling ∧ d.ceiling ≤ 262143 ∧ 1 ≤ d.refill ∧ d.refill ≤ 16383 ∧ encodePolicer d = e) ∧
    (e.length = 4 →
      (entryRangeOk 3 e = true → entryFillOk 3 e = true → (decodePool e).quota ≤ 2032 ∧ encodePool (decodePool e) = e) ∧
      (entryRangeOk 4 e = true → entryFillOk 4 e = true → (decodeQueue e).limit ≤ 160 ∧ encodeQueue (decodeQueue e) = e) ∧
      (entryRangeOk 5 e = true → entryFillOk 5 e = true →
        encodeDevice (decodeDevice e) = e ∧ (∀ n, decodeDevice e = .noticeInterval n → 10 ≤ n ∧ n ≤ 10000) ∧
          ∀ n, decodeDevice e = .sessionTimeout n → 1 ≤ n ∧ n ≤ 600))) ∧
  (∀ e : PolicerEntry, 64 ≤ e.ceiling → e.ceiling ≤ 262143 → 1 ≤ e.refill → e.refill ≤ 16383 →
    decodePolicer (encodePolicer e) = e ∧ entryRangeOk 2 (encodePolicer e) = true ∧
      entryFillOk 2 (encodePolicer e) = true) ∧
  (∀ e : PoolEntry, e.quota ≤ 2032 →
    decodePool (encodePool e) = e ∧ entryRangeOk 3 (encodePool e) = true ∧ entryFillOk 3 (encodePool e) = true) ∧
  (∀ e : QueueEntry, e.limit ≤ 160 →
    decodeQueue (encodeQueue e) = e ∧ entryRangeOk 4 (encodeQueue e) = true ∧ entryFillOk 4 (encodeQueue e) = true) ∧
  (∀ e : DeviceEntry, (∀ n, e = .noticeInterval n → 10 ≤ n ∧ n ≤ 10000) →
    (∀ n, e = .sessionTimeout n → 1 ≤ n ∧ n ≤ 600) →
    decodeDevice (encodeDevice e) = e ∧ entryRangeOk 5 (encodeDevice e) = true ∧
      entryFillOk 5 (encodeDevice e) = true)
end

