-- ==== Sys2Proof/Laws/Counters.lean ====
section
/-! SUPPORT. Counters.lean: counters rise and saturate (R204). -/

namespace Sys2Proof.Machine

/-- A counter's value after `n` events. -/
theorem count_toNat (c : Word32) (n : Nat) : (count c n).toNat = min (c.toNat + n) 4294967295 := by
  simp only [count, BitVec.toNat_ofNat]
  omega

/-- No event leaves a counter as it is. -/
@[simp] theorem count_zero (c : Word32) : count c 0 = c := by
  apply BitVec.eq_of_toNat_eq
  rw [count_toNat]
  have := c.isLt
  omega

/-- Events counted at once or in turn give the same. -/
theorem count_count (c : Word32) (m n : Nat) : count (count c m) n = count c (m + n) := by
  apply BitVec.eq_of_toNat_eq
  simp only [count_toNat]
  omega

/-- A counter never falls at an event. -/
theorem le_bump (c : Word32) : c.toNat ≤ (bump c).toNat := by
  rw [bump, count_toNat]
  have := c.isLt
  omega

end Sys2Proof.Machine
end

