-- ==== Sys2Proof/Laws/State.lean ====
section
/-! SUPPORT. State.lean: for each update of the state, what each field of the state is after it. Every lemma holds by rfl. -/

namespace Sys2Proof.Machine

/-! ## After `withRx` -/

@[simp] theorem State.withRx_pins (s : State) (p : Port) (x : Receiver) : (s.withRx p x).pins = s.pins := rfl
@[simp] theorem State.withRx_node (s : State) (p : Port) (x : Receiver) : (s.withRx p x).node = s.node := rfl
@[simp] theorem State.withRx_clock (s : State) (p : Port) (x : Receiver) : (s.withRx p x).clock = s.clock := rfl
@[simp] theorem State.withRx_rx (s : State) (p : Port) (x : Receiver) : (s.withRx p x).rx = s.rx.set p x := rfl
@[simp] theorem State.withRx_cls (s : State) (p : Port) (x : Receiver) : (s.withRx p x).cls = s.cls := rfl
@[simp] theorem State.withRx_mrg (s : State) (p : Port) (x : Receiver) : (s.withRx p x).mrg = s.mrg := rfl
@[simp] theorem State.withRx_adm (s : State) (p : Port) (x : Receiver) : (s.withRx p x).adm = s.adm := rfl
@[simp] theorem State.withRx_rep (s : State) (p : Port) (x : Receiver) : (s.withRx p x).rep = s.rep := rfl
@[simp] theorem State.withRx_egr (s : State) (p : Port) (x : Receiver) : (s.withRx p x).egr = s.egr := rfl
@[simp] theorem State.withRx_agt (s : State) (p : Port) (x : Receiver) : (s.withRx p x).agt = s.agt := rfl
@[simp] theorem State.withRx_net (s : State) (p : Port) (x : Receiver) : (s.withRx p x).net = s.net := rfl
@[simp] theorem State.withRx_pending (s : State) (p : Port) (x : Receiver) : (s.withRx p x).pending = s.pending := rfl

/-! ## After `withCls` -/

@[simp] theorem State.withCls_pins (s : State) (x : Classifier) : (s.withCls x).pins = s.pins := rfl
@[simp] theorem State.withCls_node (s : State) (x : Classifier) : (s.withCls x).node = s.node := rfl
@[simp] theorem State.withCls_clock (s : State) (x : Classifier) : (s.withCls x).clock = s.clock := rfl
@[simp] theorem State.withCls_rx (s : State) (x : Classifier) : (s.withCls x).rx = s.rx := rfl
@[simp] theorem State.withCls_cls (s : State) (x : Classifier) : (s.withCls x).cls = x := rfl
@[simp] theorem State.withCls_mrg (s : State) (x : Classifier) : (s.withCls x).mrg = s.mrg := rfl
@[simp] theorem State.withCls_adm (s : State) (x : Classifier) : (s.withCls x).adm = s.adm := rfl
@[simp] theorem State.withCls_rep (s : State) (x : Classifier) : (s.withCls x).rep = s.rep := rfl
@[simp] theorem State.withCls_egr (s : State) (x : Classifier) : (s.withCls x).egr = s.egr := rfl
@[simp] theorem State.withCls_agt (s : State) (x : Classifier) : (s.withCls x).agt = s.agt := rfl
@[simp] theorem State.withCls_net (s : State) (x : Classifier) : (s.withCls x).net = s.net := rfl
@[simp] theorem State.withCls_pending (s : State) (x : Classifier) : (s.withCls x).pending = s.pending := rfl

/-! ## After `withMrg` -/

@[simp] theorem State.withMrg_pins (s : State) (x : Merge) : (s.withMrg x).pins = s.pins := rfl
@[simp] theorem State.withMrg_node (s : State) (x : Merge) : (s.withMrg x).node = s.node := rfl
@[simp] theorem State.withMrg_clock (s : State) (x : Merge) : (s.withMrg x).clock = s.clock := rfl
@[simp] theorem State.withMrg_rx (s : State) (x : Merge) : (s.withMrg x).rx = s.rx := rfl
@[simp] theorem State.withMrg_cls (s : State) (x : Merge) : (s.withMrg x).cls = s.cls := rfl
@[simp] theorem State.withMrg_mrg (s : State) (x : Merge) : (s.withMrg x).mrg = x := rfl
@[simp] theorem State.withMrg_adm (s : State) (x : Merge) : (s.withMrg x).adm = s.adm := rfl
@[simp] theorem State.withMrg_rep (s : State) (x : Merge) : (s.withMrg x).rep = s.rep := rfl
@[simp] theorem State.withMrg_egr (s : State) (x : Merge) : (s.withMrg x).egr = s.egr := rfl
@[simp] theorem State.withMrg_agt (s : State) (x : Merge) : (s.withMrg x).agt = s.agt := rfl
@[simp] theorem State.withMrg_net (s : State) (x : Merge) : (s.withMrg x).net = s.net := rfl
@[simp] theorem State.withMrg_pending (s : State) (x : Merge) : (s.withMrg x).pending = s.pending := rfl

/-! ## After `withAdm` -/

@[simp] theorem State.withAdm_pins (s : State) (x : Admission) : (s.withAdm x).pins = s.pins := rfl
@[simp] theorem State.withAdm_node (s : State) (x : Admission) : (s.withAdm x).node = s.node := rfl
@[simp] theorem State.withAdm_clock (s : State) (x : Admission) : (s.withAdm x).clock = s.clock := rfl
@[simp] theorem State.withAdm_rx (s : State) (x : Admission) : (s.withAdm x).rx = s.rx := rfl
@[simp] theorem State.withAdm_cls (s : State) (x : Admission) : (s.withAdm x).cls = s.cls := rfl
@[simp] theorem State.withAdm_mrg (s : State) (x : Admission) : (s.withAdm x).mrg = s.mrg := rfl
@[simp] theorem State.withAdm_adm (s : State) (x : Admission) : (s.withAdm x).adm = x := rfl
@[simp] theorem State.withAdm_rep (s : State) (x : Admission) : (s.withAdm x).rep = s.rep := rfl
@[simp] theorem State.withAdm_egr (s : State) (x : Admission) : (s.withAdm x).egr = s.egr := rfl
@[simp] theorem State.withAdm_agt (s : State) (x : Admission) : (s.withAdm x).agt = s.agt := rfl
@[simp] theorem State.withAdm_net (s : State) (x : Admission) : (s.withAdm x).net = s.net := rfl
@[simp] theorem State.withAdm_pending (s : State) (x : Admission) : (s.withAdm x).pending = s.pending := rfl

/-! ## After `withRep` -/

@[simp] theorem State.withRep_pins (s : State) (x : Replicator) : (s.withRep x).pins = s.pins := rfl
@[simp] theorem State.withRep_node (s : State) (x : Replicator) : (s.withRep x).node = s.node := rfl
@[simp] theorem State.withRep_clock (s : State) (x : Replicator) : (s.withRep x).clock = s.clock := rfl
@[simp] theorem State.withRep_rx (s : State) (x : Replicator) : (s.withRep x).rx = s.rx := rfl
@[simp] theorem State.withRep_cls (s : State) (x : Replicator) : (s.withRep x).cls = s.cls := rfl
@[simp] theorem State.withRep_mrg (s : State) (x : Replicator) : (s.withRep x).mrg = s.mrg := rfl
@[simp] theorem State.withRep_adm (s : State) (x : Replicator) : (s.withRep x).adm = s.adm := rfl
@[simp] theorem State.withRep_rep (s : State) (x : Replicator) : (s.withRep x).rep = x := rfl
@[simp] theorem State.withRep_egr (s : State) (x : Replicator) : (s.withRep x).egr = s.egr := rfl
@[simp] theorem State.withRep_agt (s : State) (x : Replicator) : (s.withRep x).agt = s.agt := rfl
@[simp] theorem State.withRep_net (s : State) (x : Replicator) : (s.withRep x).net = s.net := rfl
@[simp] theorem State.withRep_pending (s : State) (x : Replicator) : (s.withRep x).pending = s.pending := rfl

/-! ## After `withEgr` -/

@[simp] theorem State.withEgr_pins (s : State) (x : Egress) : (s.withEgr x).pins = s.pins := rfl
@[simp] theorem State.withEgr_node (s : State) (x : Egress) : (s.withEgr x).node = s.node := rfl
@[simp] theorem State.withEgr_clock (s : State) (x : Egress) : (s.withEgr x).clock = s.clock := rfl
@[simp] theorem State.withEgr_rx (s : State) (x : Egress) : (s.withEgr x).rx = s.rx := rfl
@[simp] theorem State.withEgr_cls (s : State) (x : Egress) : (s.withEgr x).cls = s.cls := rfl
@[simp] theorem State.withEgr_mrg (s : State) (x : Egress) : (s.withEgr x).mrg = s.mrg := rfl
@[simp] theorem State.withEgr_adm (s : State) (x : Egress) : (s.withEgr x).adm = s.adm := rfl
@[simp] theorem State.withEgr_rep (s : State) (x : Egress) : (s.withEgr x).rep = s.rep := rfl
@[simp] theorem State.withEgr_egr (s : State) (x : Egress) : (s.withEgr x).egr = x := rfl
@[simp] theorem State.withEgr_agt (s : State) (x : Egress) : (s.withEgr x).agt = s.agt := rfl
@[simp] theorem State.withEgr_net (s : State) (x : Egress) : (s.withEgr x).net = s.net := rfl
@[simp] theorem State.withEgr_pending (s : State) (x : Egress) : (s.withEgr x).pending = s.pending := rfl

/-! ## After `withPort` -/

@[simp] theorem State.withPort_pins (s : State) (p : Port) (x : PortEgress) : (s.withPort p x).pins = s.pins := rfl
@[simp] theorem State.withPort_node (s : State) (p : Port) (x : PortEgress) : (s.withPort p x).node = s.node := rfl
@[simp] theorem State.withPort_clock (s : State) (p : Port) (x : PortEgress) : (s.withPort p x).clock = s.clock := rfl
@[simp] theorem State.withPort_rx (s : State) (p : Port) (x : PortEgress) : (s.withPort p x).rx = s.rx := rfl
@[simp] theorem State.withPort_cls (s : State) (p : Port) (x : PortEgress) : (s.withPort p x).cls = s.cls := rfl
@[simp] theorem State.withPort_mrg (s : State) (p : Port) (x : PortEgress) : (s.withPort p x).mrg = s.mrg := rfl
@[simp] theorem State.withPort_adm (s : State) (p : Port) (x : PortEgress) : (s.withPort p x).adm = s.adm := rfl
@[simp] theorem State.withPort_rep (s : State) (p : Port) (x : PortEgress) : (s.withPort p x).rep = s.rep := rfl
@[simp] theorem State.withPort_egr (s : State) (p : Port) (x : PortEgress) :
    (s.withPort p x).egr = { s.egr with ports := s.egr.ports.set p x } := rfl
@[simp] theorem State.withPort_agt (s : State) (p : Port) (x : PortEgress) : (s.withPort p x).agt = s.agt := rfl
@[simp] theorem State.withPort_net (s : State) (p : Port) (x : PortEgress) : (s.withPort p x).net = s.net := rfl
@[simp] theorem State.withPort_pending (s : State) (p : Port) (x : PortEgress) : (s.withPort p x).pending = s.pending := rfl

/-! ## After `withAgt` -/

@[simp] theorem State.withAgt_pins (s : State) (x : Agent) : (s.withAgt x).pins = s.pins := rfl
@[simp] theorem State.withAgt_node (s : State) (x : Agent) : (s.withAgt x).node = s.node := rfl
@[simp] theorem State.withAgt_clock (s : State) (x : Agent) : (s.withAgt x).clock = s.clock := rfl
@[simp] theorem State.withAgt_rx (s : State) (x : Agent) : (s.withAgt x).rx = s.rx := rfl
@[simp] theorem State.withAgt_cls (s : State) (x : Agent) : (s.withAgt x).cls = s.cls := rfl
@[simp] theorem State.withAgt_mrg (s : State) (x : Agent) : (s.withAgt x).mrg = s.mrg := rfl
@[simp] theorem State.withAgt_adm (s : State) (x : Agent) : (s.withAgt x).adm = s.adm := rfl
@[simp] theorem State.withAgt_rep (s : State) (x : Agent) : (s.withAgt x).rep = s.rep := rfl
@[simp] theorem State.withAgt_egr (s : State) (x : Agent) : (s.withAgt x).egr = s.egr := rfl
@[simp] theorem State.withAgt_agt (s : State) (x : Agent) : (s.withAgt x).agt = x := rfl
@[simp] theorem State.withAgt_net (s : State) (x : Agent) : (s.withAgt x).net = s.net := rfl
@[simp] theorem State.withAgt_pending (s : State) (x : Agent) : (s.withAgt x).pending = s.pending := rfl

/-! ## After `withPending` -/

@[simp] theorem State.withPending_pins (s : State) (x : List Instr) : (s.withPending x).pins = s.pins := rfl
@[simp] theorem State.withPending_node (s : State) (x : List Instr) : (s.withPending x).node = s.node := rfl
@[simp] theorem State.withPending_clock (s : State) (x : List Instr) : (s.withPending x).clock = s.clock := rfl
@[simp] theorem State.withPending_rx (s : State) (x : List Instr) : (s.withPending x).rx = s.rx := rfl
@[simp] theorem State.withPending_cls (s : State) (x : List Instr) : (s.withPending x).cls = s.cls := rfl
@[simp] theorem State.withPending_mrg (s : State) (x : List Instr) : (s.withPending x).mrg = s.mrg := rfl
@[simp] theorem State.withPending_adm (s : State) (x : List Instr) : (s.withPending x).adm = s.adm := rfl
@[simp] theorem State.withPending_rep (s : State) (x : List Instr) : (s.withPending x).rep = s.rep := rfl
@[simp] theorem State.withPending_egr (s : State) (x : List Instr) : (s.withPending x).egr = s.egr := rfl
@[simp] theorem State.withPending_agt (s : State) (x : List Instr) : (s.withPending x).agt = s.agt := rfl
@[simp] theorem State.withPending_net (s : State) (x : List Instr) : (s.withPending x).net = s.net := rfl
@[simp] theorem State.withPending_pending (s : State) (x : List Instr) : (s.withPending x).pending = x := rfl

/-! ## After `send` -/

@[simp] theorem State.send_pins (s : State) (ms : List Msg) : (s.send ms).pins = s.pins := rfl
@[simp] theorem State.send_node (s : State) (ms : List Msg) : (s.send ms).node = s.node := rfl
@[simp] theorem State.send_clock (s : State) (ms : List Msg) : (s.send ms).clock = s.clock := rfl
@[simp] theorem State.send_rx (s : State) (ms : List Msg) : (s.send ms).rx = s.rx := rfl
@[simp] theorem State.send_cls (s : State) (ms : List Msg) : (s.send ms).cls = s.cls := rfl
@[simp] theorem State.send_mrg (s : State) (ms : List Msg) : (s.send ms).mrg = s.mrg := rfl
@[simp] theorem State.send_adm (s : State) (ms : List Msg) : (s.send ms).adm = s.adm := rfl
@[simp] theorem State.send_rep (s : State) (ms : List Msg) : (s.send ms).rep = s.rep := rfl
@[simp] theorem State.send_egr (s : State) (ms : List Msg) : (s.send ms).egr = s.egr := rfl
@[simp] theorem State.send_agt (s : State) (ms : List Msg) : (s.send ms).agt = s.agt := rfl
@[simp] theorem State.send_net (s : State) (ms : List Msg) : (s.send ms).net = s.net ++ ms := rfl
@[simp] theorem State.send_pending (s : State) (ms : List Msg) : (s.send ms).pending = s.pending := rfl

/-! ## After `took` -/

@[simp] theorem State.took_pins (s : State) (rest ms : List Msg) : (s.took rest ms).pins = s.pins := rfl
@[simp] theorem State.took_node (s : State) (rest ms : List Msg) : (s.took rest ms).node = s.node := rfl
@[simp] theorem State.took_clock (s : State) (rest ms : List Msg) : (s.took rest ms).clock = s.clock := rfl
@[simp] theorem State.took_rx (s : State) (rest ms : List Msg) : (s.took rest ms).rx = s.rx := rfl
@[simp] theorem State.took_cls (s : State) (rest ms : List Msg) : (s.took rest ms).cls = s.cls := rfl
@[simp] theorem State.took_mrg (s : State) (rest ms : List Msg) : (s.took rest ms).mrg = s.mrg := rfl
@[simp] theorem State.took_adm (s : State) (rest ms : List Msg) : (s.took rest ms).adm = s.adm := rfl
@[simp] theorem State.took_rep (s : State) (rest ms : List Msg) : (s.took rest ms).rep = s.rep := rfl
@[simp] theorem State.took_egr (s : State) (rest ms : List Msg) : (s.took rest ms).egr = s.egr := rfl
@[simp] theorem State.took_agt (s : State) (rest ms : List Msg) : (s.took rest ms).agt = s.agt := rfl
@[simp] theorem State.took_net (s : State) (rest ms : List Msg) : (s.took rest ms).net = rest ++ ms := rfl
@[simp] theorem State.took_pending (s : State) (rest ms : List Msg) : (s.took rest ms).pending = s.pending := rfl

/-! ## After `writeFrame` -/

@[simp] theorem State.writeFrame_pins (s : State) (ref : FrameRef) (bytes : List Byte) :
    (s.writeFrame ref bytes).pins = s.pins := rfl
@[simp] theorem State.writeFrame_node (s : State) (ref : FrameRef) (bytes : List Byte) :
    (s.writeFrame ref bytes).node = s.node := rfl
@[simp] theorem State.writeFrame_clock (s : State) (ref : FrameRef) (bytes : List Byte) :
    (s.writeFrame ref bytes).clock = s.clock := rfl
@[simp] theorem State.writeFrame_rx (s : State) (ref : FrameRef) (bytes : List Byte) :
    (s.writeFrame ref bytes).rx = s.rx := rfl
@[simp] theorem State.writeFrame_cls (s : State) (ref : FrameRef) (bytes : List Byte) :
    (s.writeFrame ref bytes).cls = s.cls := rfl
@[simp] theorem State.writeFrame_mrg (s : State) (ref : FrameRef) (bytes : List Byte) :
    (s.writeFrame ref bytes).mrg = s.mrg := rfl
@[simp] theorem State.writeFrame_adm (s : State) (ref : FrameRef) (bytes : List Byte) :
    (s.writeFrame ref bytes).adm = s.adm.updRecord ref fun r => { r with bytes := bytes } := rfl
@[simp] theorem State.writeFrame_rep (s : State) (ref : FrameRef) (bytes : List Byte) :
    (s.writeFrame ref bytes).rep = s.rep := rfl
@[simp] theorem State.writeFrame_egr (s : State) (ref : FrameRef) (bytes : List Byte) :
    (s.writeFrame ref bytes).egr = s.egr := rfl
@[simp] theorem State.writeFrame_agt (s : State) (ref : FrameRef) (bytes : List Byte) :
    (s.writeFrame ref bytes).agt = s.agt := rfl
@[simp] theorem State.writeFrame_net (s : State) (ref : FrameRef) (bytes : List Byte) :
    (s.writeFrame ref bytes).net = s.net := rfl
@[simp] theorem State.writeFrame_pending (s : State) (ref : FrameRef) (bytes : List Byte) :
    (s.writeFrame ref bytes).pending = s.pending := rfl

/-! ## Values per port, lane and class -/

@[simp] theorem PerPort.get_l0 {α : Type} (v : PerPort α) : v.get .l0 = v.l0 := rfl
@[simp] theorem PerPort.get_l1 {α : Type} (v : PerPort α) : v.get .l1 = v.l1 := rfl
@[simp] theorem PerPort.get_t {α : Type} (v : PerPort α) : v.get .t = v.t := rfl
@[simp] theorem PerPort.set_l0_l0 {α : Type} (v : PerPort α) (x : α) : (v.set .l0 x).l0 = x := rfl
@[simp] theorem PerPort.set_l0_l1 {α : Type} (v : PerPort α) (x : α) : (v.set .l0 x).l1 = v.l1 := rfl
@[simp] theorem PerPort.set_l0_t {α : Type} (v : PerPort α) (x : α) : (v.set .l0 x).t = v.t := rfl
@[simp] theorem PerPort.set_l1_l0 {α : Type} (v : PerPort α) (x : α) : (v.set .l1 x).l0 = v.l0 := rfl
@[simp] theorem PerPort.set_l1_l1 {α : Type} (v : PerPort α) (x : α) : (v.set .l1 x).l1 = x := rfl
@[simp] theorem PerPort.set_l1_t {α : Type} (v : PerPort α) (x : α) : (v.set .l1 x).t = v.t := rfl
@[simp] theorem PerPort.set_t_l0 {α : Type} (v : PerPort α) (x : α) : (v.set .t x).l0 = v.l0 := rfl
@[simp] theorem PerPort.set_t_l1 {α : Type} (v : PerPort α) (x : α) : (v.set .t x).l1 = v.l1 := rfl
@[simp] theorem PerPort.set_t_t {α : Type} (v : PerPort α) (x : α) : (v.set .t x).t = x := rfl

/-- The value last set is read. -/
@[simp] theorem PerPort.get_set_self {α : Type} (v : PerPort α) (i : Port) (x : α) : (v.set i x).get i = x := by
  cases i <;> rfl

/-- A set value leaves the others alone. -/
theorem PerPort.get_set_ne {α : Type} (v : PerPort α) (i j : Port) (x : α) (h : j ≠ i) : (v.set i x).get j = v.get j := by
  cases i <;> cases j <;> first | rfl | exact absurd rfl h

/-- Setting a value to what it was changes nothing. -/
@[simp] theorem PerPort.set_get_self {α : Type} (v : PerPort α) (i : Port) : v.set i (v.get i) = v := by
  cases i <;> rfl

@[simp] theorem PerLane.get_l0 {α : Type} (v : PerLane α) : v.get .l0 = v.l0 := rfl
@[simp] theorem PerLane.get_l1 {α : Type} (v : PerLane α) : v.get .l1 = v.l1 := rfl
@[simp] theorem PerLane.set_l0_l0 {α : Type} (v : PerLane α) (x : α) : (v.set .l0 x).l0 = x := rfl
@[simp] theorem PerLane.set_l0_l1 {α : Type} (v : PerLane α) (x : α) : (v.set .l0 x).l1 = v.l1 := rfl
@[simp] theorem PerLane.set_l1_l0 {α : Type} (v : PerLane α) (x : α) : (v.set .l1 x).l0 = v.l0 := rfl
@[simp] theorem PerLane.set_l1_l1 {α : Type} (v : PerLane α) (x : α) : (v.set .l1 x).l1 = x := rfl

/-- The value last set is read. -/
@[simp] theorem PerLane.get_set_self {α : Type} (v : PerLane α) (i : Lane) (x : α) : (v.set i x).get i = x := by
  cases i <;> rfl

/-- A set value leaves the others alone. -/
theorem PerLane.get_set_ne {α : Type} (v : PerLane α) (i j : Lane) (x : α) (h : j ≠ i) : (v.set i x).get j = v.get j := by
  cases i <;> cases j <;> first | rfl | exact absurd rfl h

/-- Setting a value to what it was changes nothing. -/
@[simp] theorem PerLane.set_get_self {α : Type} (v : PerLane α) (i : Lane) : v.set i (v.get i) = v := by
  cases i <;> rfl

@[simp] theorem PerClass.get_c0 {α : Type} (v : PerClass α) : v.get .c0 = v.c0 := rfl
@[simp] theorem PerClass.get_c1 {α : Type} (v : PerClass α) : v.get .c1 = v.c1 := rfl
@[simp] theorem PerClass.get_c2 {α : Type} (v : PerClass α) : v.get .c2 = v.c2 := rfl
@[simp] theorem PerClass.get_c3 {α : Type} (v : PerClass α) : v.get .c3 = v.c3 := rfl
@[simp] theorem PerClass.set_c0_c0 {α : Type} (v : PerClass α) (x : α) : (v.set .c0 x).c0 = x := rfl
@[simp] theorem PerClass.set_c0_c1 {α : Type} (v : PerClass α) (x : α) : (v.set .c0 x).c1 = v.c1 := rfl
@[simp] theorem PerClass.set_c0_c2 {α : Type} (v : PerClass α) (x : α) : (v.set .c0 x).c2 = v.c2 := rfl
@[simp] theorem PerClass.set_c0_c3 {α : Type} (v : PerClass α) (x : α) : (v.set .c0 x).c3 = v.c3 := rfl
@[simp] theorem PerClass.set_c1_c0 {α : Type} (v : PerClass α) (x : α) : (v.set .c1 x).c0 = v.c0 := rfl
@[simp] theorem PerClass.set_c1_c1 {α : Type} (v : PerClass α) (x : α) : (v.set .c1 x).c1 = x := rfl
@[simp] theorem PerClass.set_c1_c2 {α : Type} (v : PerClass α) (x : α) : (v.set .c1 x).c2 = v.c2 := rfl
@[simp] theorem PerClass.set_c1_c3 {α : Type} (v : PerClass α) (x : α) : (v.set .c1 x).c3 = v.c3 := rfl
@[simp] theorem PerClass.set_c2_c0 {α : Type} (v : PerClass α) (x : α) : (v.set .c2 x).c0 = v.c0 := rfl
@[simp] theorem PerClass.set_c2_c1 {α : Type} (v : PerClass α) (x : α) : (v.set .c2 x).c1 = v.c1 := rfl
@[simp] theorem PerClass.set_c2_c2 {α : Type} (v : PerClass α) (x : α) : (v.set .c2 x).c2 = x := rfl
@[simp] theorem PerClass.set_c2_c3 {α : Type} (v : PerClass α) (x : α) : (v.set .c2 x).c3 = v.c3 := rfl
@[simp] theorem PerClass.set_c3_c0 {α : Type} (v : PerClass α) (x : α) : (v.set .c3 x).c0 = v.c0 := rfl
@[simp] theorem PerClass.set_c3_c1 {α : Type} (v : PerClass α) (x : α) : (v.set .c3 x).c1 = v.c1 := rfl
@[simp] theorem PerClass.set_c3_c2 {α : Type} (v : PerClass α) (x : α) : (v.set .c3 x).c2 = v.c2 := rfl
@[simp] theorem PerClass.set_c3_c3 {α : Type} (v : PerClass α) (x : α) : (v.set .c3 x).c3 = x := rfl

/-- The value last set is read. -/
@[simp] theorem PerClass.get_set_self {α : Type} (v : PerClass α) (i : Sys2Proof.Class) (x : α) : (v.set i x).get i = x := by
  cases i <;> rfl

/-- A set value leaves the others alone. -/
theorem PerClass.get_set_ne {α : Type} (v : PerClass α) (i j : Sys2Proof.Class) (x : α) (h : j ≠ i) : (v.set i x).get j = v.get j := by
  cases i <;> cases j <;> first | rfl | exact absurd rfl h

/-- Setting a value to what it was changes nothing. -/
@[simp] theorem PerClass.set_get_self {α : Type} (v : PerClass α) (i : Sys2Proof.Class) : v.set i (v.get i) = v := by
  cases i <;> rfl

/-! ## Messages sent and taken -/

theorem State.took_nil (s : State) (rest : List Msg) : s.took rest [] = { s with net := rest } := by
  simp [State.took]

theorem State.send_nil (s : State) : s.send [] = s := by
  simp [State.send]

theorem State.send_send (s : State) (ms ns : List Msg) : (s.send ms).send ns = s.send (ms ++ ns) := by
  simp [State.send]

theorem State.took_eq_send (s : State) (rest ms : List Msg) : s.took rest ms = ({ s with net := rest } : State).send ms := rfl

end Sys2Proof.Machine
end

