-- ==== Sys2Proof/Laws/Memory.lean ====
section
/-! SUPPORT. Memory.lean: frame records, references and the blocks a frame takes (R101, R107 to R109). -/

namespace Sys2Proof.Machine

/-- A reference names a record only under the present restart count, and then the record of its number. -/
theorem Admission.recordOf_some {a : Admission} {ref : FrameRef} {r : FrameRec} (h : a.recordOf ref = some r) :
    ref.restart = a.restarts ∧ r ∈ a.records ∧ r.id = ref.id := by
  simp only [Admission.recordOf] at h
  split at h
  · rename_i hr
    exact ⟨hr, List.mem_of_find?_eq_some h, by simpa using List.find?_some h⟩
  · cases h

/-- A frame written or a count changed: only the named record changes, and the accounts of blocks stay. -/
theorem Admission.updRecord_frame (a : Admission) (ref : FrameRef) (f : FrameRec → FrameRec) :
    (a.updRecord ref f).free = a.free ∧ (a.updRecord ref f).inUse = a.inUse ∧
      (a.updRecord ref f).reserve = a.reserve ∧ (a.updRecord ref f).policers = a.policers ∧
      (a.updRecord ref f).quotas = a.quotas ∧ (a.updRecord ref f).restarts = a.restarts ∧
      (a.updRecord ref f).nextId = a.nextId ∧ (a.updRecord ref f).shadow = a.shadow ∧
      (a.updRecord ref f).counts = a.counts ∧ (a.updRecord ref f).replyNoBuffer = a.replyNoBuffer := by
  simp only [Admission.updRecord]
  split <;> exact ⟨rfl, rfl, rfl, rfl, rfl, rfl, rfl, rfl, rfl, rfl⟩

/-- The records after an update. -/
theorem Admission.updRecord_records (a : Admission) (ref : FrameRef) (f : FrameRec → FrameRec) :
    (a.updRecord ref f).records =
      if ref.restart = a.restarts then a.records.map fun r => if r.id = ref.id then f r else r else a.records := by
  simp only [Admission.updRecord]
  split <;> rfl

/-- An update that keeps a record's number, source and blocks keeps them for every record. -/
theorem Admission.updRecord_map {β : Type} (a : Admission) (ref : FrameRef) (f : FrameRec → FrameRec)
    (g : FrameRec → β) (h : ∀ r, g (f r) = g r) : (a.updRecord ref f).records.map g = a.records.map g := by
  rw [Admission.updRecord_records]
  split
  · rw [List.map_map]
    apply List.map_congr_left
    intro r _
    simp only [Function.comp_apply]
    split
    · exact h r
    · rfl
  · rfl

/-- A release can do three things: nothing, when the reference names no record; lower the count; or return the blocks,
end the record and answer a watch. -/
theorem State.releaseRef_cases (s : State) (ref : FrameRef) :
    (s.adm.recordOf ref = none ∧ s.releaseRef ref = s) ∨
      ∃ r, s.adm.recordOf ref = some r ∧
        ((1 < r.count ∧ s.releaseRef ref = { s with adm := s.adm.updRecord ref fun r => { r with count := r.count - 1 } }) ∨
          (r.count ≤ 1 ∧
            s.releaseRef ref =
              { s with adm := s.adm.returnBlocks r, net := s.net ++ if r.watch then [.watchReturned] else [] })) := by
  simp only [State.releaseRef]
  cases h : s.adm.recordOf ref with
  | none => exact .inl ⟨rfl, rfl⟩
  | some r =>
    refine .inr ⟨r, rfl, ?_⟩
    by_cases hc : r.count ≤ 1
    · exact .inr ⟨hc, by simp [hc, State.withAdm, State.send]⟩
    · exact .inl ⟨by omega, by simp [hc, State.withAdm]⟩

/-- What holds without the releases of a reference that are on their way, and is kept by a release, holds once they have been
taken (R109). -/
theorem State.takeReleases_induct {P : State → Prop} (s : State) (ref : FrameRef)
    (start : P { s with net := s.net.filter fun m => !(m == .release ref) })
    (keep : ∀ t, P t → P (t.releaseRef ref)) : P (s.takeReleases ref) := by
  have fold (ms : List Msg) : ∀ t, P t → P (ms.foldl (fun t _ => t.releaseRef ref) t) := by
    induction ms with
    | nil => exact fun _ h => h
    | cons _ _ ih => exact fun t h => ih _ (keep t h)
  exact fold _ _ start

/-- Taking the releases that are on their way changes the admission unit and the messages alone: the releases are gone, the
other messages keep their order, and a watch may be answered (R109, R174). -/
theorem State.takeReleases_frame (s : State) (ref : FrameRef) :
    let t := s.takeReleases ref
    t = { s with adm := t.adm, net := t.net } ∧
      ∃ ws, t.net = (s.net.filter fun m => !(m == .release ref)) ++ ws ∧ ∀ m ∈ ws, m = .watchReturned := by
  refine State.takeReleases_induct
    (P := fun t => t = { s with adm := t.adm, net := t.net } ∧
      ∃ ws, t.net = (s.net.filter fun m => !(m == .release ref)) ++ ws ∧ ∀ m ∈ ws, m = .watchReturned)
    s ref ⟨rfl, [], by simp⟩ fun t ⟨ht, ws, hn, hw⟩ => ?_
  obtain ⟨-, h⟩ | ⟨r, -, ⟨-, h⟩ | ⟨-, h⟩⟩ := t.releaseRef_cases ref <;> rw [h]
  · exact ⟨ht, ws, hn, hw⟩
  · exact ⟨by rw [ht], ws, hn, hw⟩
  · refine ⟨by rw [ht], ws ++ (if r.watch then [.watchReturned] else []), by simp [hn], fun m hm => ?_⟩
    rcases List.mem_append.mp hm with hm | hm
    · exact hw m hm
    · revert hm; split <;> simp

/-- A frame of 1 to 1536 bytes takes 1 to 6 blocks (R101). -/
theorem blocksFor_bounds {len : Nat} (h1 : 1 ≤ len) (h2 : len ≤ 1536) : 1 ≤ blocksFor len ∧ blocksFor len ≤ 6 := by
  simp only [blocksFor, Config.blockBytes]
  omega

/-- The blocks of a frame hold it, and one block fewer would not (R101). -/
theorem blocksFor_least (len : Nat) : len ≤ 256 * blocksFor len ∧ 256 * blocksFor len < len + 256 := by
  simp only [blocksFor, Config.blockBytes]
  omega

/-- A refill keeps a credit within its ceiling (R98). -/
theorem Policer.refilled_credit {p : Policer} (h : p.credit ≤ p.ceiling) : p.refilled.credit ≤ p.refilled.ceiling := by
  simp only [Policer.refilled]
  split
  · exact Nat.min_le_right _ _
  · exact h

end Sys2Proof.Machine
end

