-- ==== Sys2Proof/Laws/Messages.lean ====
section
/-! SUPPORT. Messages.lean: what taking a message can do, said once for each of the operations that take one. -/

namespace Sys2Proof.Machine

/-- The message taken, with those before it (which the event does not pick) and those behind it. -/
theorem takeFirst_split {α : Type} {sel : Msg → Option α} {ms : List Msg} {a : α} {rest : List Msg}
    (h : takeFirst sel ms = some (a, rest)) :
    ∃ pre m post, ms = pre ++ m :: post ∧ (∀ x ∈ pre, sel x = none) ∧ sel m = some a ∧ rest = pre ++ post := by
  induction ms generalizing rest with
  | nil => cases h
  | cons m ms ih =>
    simp only [takeFirst] at h
    cases hm : sel m with
    | some b =>
      rw [hm] at h
      obtain ⟨rfl, rfl⟩ : b = a ∧ ms = rest := by simpa using h
      exact ⟨[], m, ms, rfl, by simp, hm, rfl⟩
    | none =>
      rw [hm] at h
      cases ht : takeFirst sel ms with
      | none => rw [ht] at h; cases h
      | some q =>
        obtain ⟨b, r⟩ := q
        rw [ht] at h
        obtain ⟨rfl, rfl⟩ : b = a ∧ m :: r = rest := by simpa using h
        obtain ⟨pre, x, post, rfl, h2, h3, rfl⟩ := ih ht
        refine ⟨m :: pre, x, post, rfl, ?_, h3, rfl⟩
        intro y hy
        rcases List.mem_cons.1 hy with rfl | hy
        · exact hm
        · exact h2 y hy

/-- No message is taken exactly when the event picks none of them. -/
theorem takeFirst_eq_none {α : Type} {sel : Msg → Option α} {ms : List Msg} :
    takeFirst sel ms = none ↔ ∀ m ∈ ms, sel m = none := by
  induction ms with
  | nil => simp [takeFirst]
  | cons m ms ih =>
    cases hm : sel m with
    | some b => simp [takeFirst, hm]
    | none => cases ht : takeFirst sel ms <;> simp_all [takeFirst]

/-- The messages left are some of those that were there. -/
theorem takeFirst_sublist {α : Type} {sel : Msg → Option α} {ms : List Msg} {a : α} {rest : List Msg}
    (h : takeFirst sel ms = some (a, rest)) : rest.Sublist ms := by
  obtain ⟨pre, m, post, rfl, -, -, rfl⟩ := takeFirst_split h
  exact (List.Sublist.refl pre).append (List.sublist_cons_self m post)

/-- An event of a message: with none to take the state stays; otherwise the meaning runs on the state without the message. -/
theorem State.onMsg_cases {α : Type} {s t : State} {sel : Msg → Option α} {k : α → State → State}
    (h : s.onMsg sel k = .next t) :
    (takeFirst sel s.net = none ∧ t = s) ∨
      ∃ a rest, takeFirst sel s.net = some (a, rest) ∧ t = k a { s with net := rest } := by
  simp only [State.onMsg] at h
  cases ht : takeFirst sel s.net with
  | none => rw [ht] at h; exact .inl ⟨rfl, by simpa using h.symm⟩
  | some q => rw [ht] at h; exact .inr ⟨q.1, q.2, rfl, by simpa using h.symm⟩

/-- An event of a message never faults and is never refused. -/
theorem State.onMsg_next {α : Type} (s : State) (sel : Msg → Option α) (k : α → State → State) :
    ∃ t, s.onMsg sel k = .next t := by
  simp only [State.onMsg]
  split <;> exact ⟨_, rfl⟩

/-- An event on the agent's state: put off while a request is in hand, taken from the put-off messages first, and otherwise
an event of a message. -/
theorem State.agentEvent_cases {α : Type} {s t : State} {sel : Msg → Option α} {k : α → State → State}
    (h : s.agentEvent sel k = .next t) :
    t = s ∨
      (∃ m rest, s.agt.hand.isSome = true ∧
        t = { s with net := rest, agt := { s.agt with deferred := s.agt.deferred ++ [m] } }) ∨
      (∃ a rest, takeFirst sel s.agt.deferred = some (a, rest) ∧
        t = k a { s with agt := { s.agt with deferred := rest } }) ∨
      ∃ a rest, takeFirst sel s.net = some (a, rest) ∧ t = k a { s with net := rest } := by
  simp only [State.agentEvent] at h
  split at h
  · rename_i hh
    split at h
    · exact .inl (by simpa using h.symm)
    · exact .inr (.inl ⟨_, _, hh, by simpa using h.symm⟩)
  · split at h
    · rename_i a rest he
      injection h with h
      exact .inr (.inr (.inl ⟨a, rest, he, h.symm⟩))
    · rcases State.onMsg_cases h with ⟨-, rfl⟩ | h
      · exact .inl rfl
      · exact .inr (.inr (.inr h))

/-- What the agent takes a message from: the state changes in its deferred messages and those on their way alone, and no request
is in hand (R157). -/
theorem State.agentTakes_frame {α : Type} {s b : State} {sel : Msg → Option α} {a : α} (h : s.agentTakes sel a b) :
    b = { s with agt := { s.agt with deferred := b.agt.deferred }, net := b.net } ∧ b.agt.hand = none := by
  obtain ⟨hh, ⟨rest, -, rfl⟩ | ⟨-, rest, -, rfl⟩⟩ := h <;> exact ⟨rfl, hh⟩

/-- An event on the agent's state that has a message to take runs on the state without it (R157). -/
theorem State.agentEvent_takes {α : Type} {s b : State} {sel : Msg → Option α} {a : α} (k : α → State → State)
    (h : s.agentTakes sel a b) : s.agentEvent sel k = .next (k a b) := by
  obtain ⟨hh, ⟨rest, h1, rfl⟩ | ⟨h1, rest, h2, rfl⟩⟩ := h
  · simp [State.agentEvent, hh, h1, State.withAgt]
  · simp [State.agentEvent, hh, h1, State.onMsg, h2]

/-- An event on the agent's state that has no message to take, deferred or on its way, changes nothing (log 1). -/
theorem State.agentEvent_lacks {α : Type} {s : State} {sel : Msg → Option α} (k : α → State → State)
    (h : s.agentLacks sel) : s.agentEvent sel k = .next s := by
  have h1 := takeFirst_eq_none.mpr h.1
  have h2 := takeFirst_eq_none.mpr h.2
  have h3 : takeFirst (fun m => (sel m).map fun _ => m) s.net = none :=
    takeFirst_eq_none.mpr fun m hm => by simp [h.2 m hm]
  simp only [State.agentEvent, h1, h3, State.onMsg, h2]
  split <;> rfl

/-- An event on the agent's state never faults and is never refused. -/
theorem State.agentEvent_next {α : Type} (s : State) (sel : Msg → Option α) (k : α → State → State) :
    ∃ t, s.agentEvent sel k = .next t := by
  simp only [State.agentEvent]
  split
  · split <;> exact ⟨_, rfl⟩
  · split
    · exact ⟨_, rfl⟩
    · exact State.onMsg_next _ _ _

end Sys2Proof.Machine
end

