-- ==== Sys2Proof/Laws/PerInstr.lean ====
section
/-! SUPPORT. PerInstr.lean: statements made for every command, one lemma per constructor. -/

namespace Sys2Proof.Laws.Unspelled

/-- No word of spec/opcode_table.json spells the command: the part is a block and no row of the table gives bits. -/
def Statement (i : Instr) : Prop := ∀ nbits w, decodeTableWord nbits w ≠ some i

theorem powerOnReset : ∀ straps l0 l1 t, Statement (.powerOnReset straps l0 l1 t) := by intros; intro _ _ h; cases h
theorem linkChange : ∀ p st, Statement (.linkChange p st) := by intros; intro _ _ h; cases h
theorem frameStart : ∀ p bytes, Statement (.frameStart p bytes) := by intros; intro _ _ h; cases h
theorem frameEnd : ∀ p err, Statement (.frameEnd p err) := by intros; intro _ _ h; cases h
theorem timeCountTick : Statement .timeCountTick := fun _ _ h => nomatch h
theorem classify : ∀ p, Statement (.classify p) := by intros; intro _ _ h; cases h
theorem classifierLinkChange : ∀ l, Statement (.classifierLinkChange l) := by intros; intro _ _ h; cases h
theorem classifierShadowCreate : Statement .classifierShadowCreate := fun _ _ h => nomatch h
theorem classifierShadowDiscard : Statement .classifierShadowDiscard := fun _ _ h => nomatch h
theorem recordWrite : Statement .recordWrite := fun _ _ h => nomatch h
theorem removal : Statement .removal := fun _ _ h => nomatch h
theorem emptyBankWrite : Statement .emptyBankWrite := fun _ _ h => nomatch h
theorem deviceWrite : Statement .deviceWrite := fun _ _ h => nomatch h
theorem recordRead : Statement .recordRead := fun _ _ h => nomatch h
theorem classifierEntryRead : ∀ u, Statement (.classifierEntryRead u) := by intros; intro _ _ h; cases h
theorem nextRead : ∀ u, Statement (.nextRead u) := by intros; intro _ _ h; cases h
theorem classifierSwap : Statement .classifierSwap := fun _ _ h => nomatch h
theorem classifierCounterRead : Statement .classifierCounterRead := fun _ _ h => nomatch h
theorem classifierTrafficRestart : Statement .classifierTrafficRestart := fun _ _ h => nomatch h
theorem classifierFullRestart : Statement .classifierFullRestart := fun _ _ h => nomatch h
theorem takeDirectoryArrival : Statement .takeDirectoryArrival := fun _ _ h => nomatch h
theorem takeUnknownArrival : Statement .takeUnknownArrival := fun _ _ h => nomatch h
theorem takeManagementArrival : Statement .takeManagementArrival := fun _ _ h => nomatch h
theorem mergeGrantAnswer : Statement .mergeGrantAnswer := fun _ _ h => nomatch h
theorem mergePlacementAnswer : Statement .mergePlacementAnswer := fun _ _ h => nomatch h
theorem managementPlacementAnswer : Statement .managementPlacementAnswer := fun _ _ h => nomatch h
theorem releaseEnqueueAnswer : ∀ frame, Statement (.releaseEnqueueAnswer frame) := by intros; intro _ _ h; cases h
theorem silenceExpiry : ∀ r, Statement (.silenceExpiry r) := by intros; intro _ _ h; cases h
theorem holdTimerExpiry : ∀ k, Statement (.holdTimerExpiry k) := by intros; intro _ _ h; cases h
theorem mergeReconciliationRequest : Statement .mergeReconciliationRequest := fun _ _ h => nomatch h
theorem mergeReconcileKey : Statement .mergeReconcileKey := fun _ _ h => nomatch h
theorem holdStateRead : Statement .holdStateRead := fun _ _ h => nomatch h
theorem mergeCounterRead : Statement .mergeCounterRead := fun _ _ h => nomatch h
theorem mergeTrafficRestart : Statement .mergeTrafficRestart := fun _ _ h => nomatch h
theorem mergeFullRestart : Statement .mergeFullRestart := fun _ _ h => nomatch h
theorem grantRequest : ∀ who, Statement (.grantRequest who) := by intros; intro _ _ h; cases h
theorem reserveGrantRequest : ∀ who, Statement (.reserveGrantRequest who) := by intros; intro _ _ h; cases h
theorem refillExpiry : Statement .refillExpiry := fun _ _ h => nomatch h
theorem copyAdd : ∀ place, Statement (.copyAdd place) := by intros; intro _ _ h; cases h
theorem referenceRelease : ∀ frame, Statement (.referenceRelease frame) := by intros; intro _ _ h; cases h
theorem releaseWatch : Statement .releaseWatch := fun _ _ h => nomatch h
theorem admissionShadowCreate : Statement .admissionShadowCreate := fun _ _ h => nomatch h
theorem admissionShadowDiscard : Statement .admissionShadowDiscard := fun _ _ h => nomatch h
theorem policerWrite : Statement .policerWrite := fun _ _ h => nomatch h
theorem poolWrite : Statement .poolWrite := fun _ _ h => nomatch h
theorem admissionEntryRead : ∀ u e, Statement (.admissionEntryRead u e) := by intros; intro _ _ h; cases h
theorem admissionStateRead : Statement .admissionStateRead := fun _ _ h => nomatch h
theorem admissionCounterRead : Statement .admissionCounterRead := fun _ _ h => nomatch h
theorem counterEntryCreate : ∀ who k, Statement (.counterEntryCreate who k) := by intros; intro _ _ h; cases h
theorem counterEntryDelete : ∀ who k, Statement (.counterEntryDelete who k) := by intros; intro _ _ h; cases h
theorem admissionSwap : Statement .admissionSwap := fun _ _ h => nomatch h
theorem admissionTrafficRestart : Statement .admissionTrafficRestart := fun _ _ h => nomatch h
theorem admissionFullRestart : Statement .admissionFullRestart := fun _ _ h => nomatch h
theorem replicatorReconciliationRequest : Statement .replicatorReconciliationRequest := fun _ _ h => nomatch h
theorem replicatorReconcileKey : Statement .replicatorReconcileKey := fun _ _ h => nomatch h
theorem replicatorLinkChange : ∀ l, Statement (.replicatorLinkChange l) := by intros; intro _ _ h; cases h
theorem takeDirectoryDeparture : Statement .takeDirectoryDeparture := fun _ _ h => nomatch h
theorem takeUnknownDeparture : Statement .takeUnknownDeparture := fun _ _ h => nomatch h
theorem takeHandoff : Statement .takeHandoff := fun _ _ h => nomatch h
theorem replicatorGrantAnswer : Statement .replicatorGrantAnswer := fun _ _ h => nomatch h
theorem replicatorReserveGrantAnswer : Statement .replicatorReserveGrantAnswer := fun _ _ h => nomatch h
theorem replicatorEnqueueAnswer : ∀ l, Statement (.replicatorEnqueueAnswer l) := by intros; intro _ _ h; cases h
theorem replicatorCounterRead : Statement .replicatorCounterRead := fun _ _ h => nomatch h
theorem replicatorTrafficRestart : Statement .replicatorTrafficRestart := fun _ _ h => nomatch h
theorem replicatorFullRestart : Statement .replicatorFullRestart := fun _ _ h => nomatch h
theorem enqueueRequest : ∀ who, Statement (.enqueueRequest who) := by intros; intro _ _ h; cases h
theorem copyAddAnswer : ∀ place, Statement (.copyAddAnswer place) := by intros; intro _ _ h; cases h
theorem transmitCompletion : ∀ p tx, Statement (.transmitCompletion p tx) := by intros; intro _ _ h; cases h
theorem egressLinkDown : ∀ p, Statement (.egressLinkDown p) := by intros; intro _ _ h; cases h
theorem egressLinkUp : ∀ p, Statement (.egressLinkUp p) := by intros; intro _ _ h; cases h
theorem egressShadowCreate : Statement .egressShadowCreate := fun _ _ h => nomatch h
theorem egressShadowDiscard : Statement .egressShadowDiscard := fun _ _ h => nomatch h
theorem queueWrite : Statement .queueWrite := fun _ _ h => nomatch h
theorem egressEntryRead : ∀ u p c, Statement (.egressEntryRead u p c) := by intros; intro _ _ h; cases h
theorem egressSwap : Statement .egressSwap := fun _ _ h => nomatch h
theorem egressCounterRead : Statement .egressCounterRead := fun _ _ h => nomatch h
theorem egressTrafficRestart : Statement .egressTrafficRestart := fun _ _ h => nomatch h
theorem egressFullRestart : Statement .egressFullRestart := fun _ _ h => nomatch h
theorem linkStateRead : ∀ p, Statement (.linkStateRead p) := by intros; intro _ _ h; cases h
theorem receiverCounterRead : ∀ p, Statement (.receiverCounterRead p) := by intros; intro _ _ h; cases h
theorem receiverFullRestart : ∀ p, Statement (.receiverFullRestart p) := by intros; intro _ _ h; cases h
theorem requestPlacement : Statement .requestPlacement := fun _ _ h => nomatch h
theorem unknownKindRequest : Statement .unknownKindRequest := fun _ _ h => nomatch h
theorem openSession : Statement .openSession := fun _ _ h => nomatch h
theorem closeSession : Statement .closeSession := fun _ _ h => nomatch h
theorem putDirectory : Statement .putDirectory := fun _ _ h => nomatch h
theorem putPolicers : Statement .putPolicers := fun _ _ h => nomatch h
theorem putPools : Statement .putPools := fun _ _ h => nomatch h
theorem putQueues : Statement .putQueues := fun _ _ h => nomatch h
theorem putDevice : Statement .putDevice := fun _ _ h => nomatch h
theorem dropKeys : Statement .dropKeys := fun _ _ h => nomatch h
theorem clearBank : Statement .clearBank := fun _ _ h => nomatch h
theorem abandon : Statement .abandon := fun _ _ h => nomatch h
theorem checkShadow : Statement .checkShadow := fun _ _ h => nomatch h
theorem commit : Statement .commit := fun _ _ h => nomatch h
theorem readDirectory : Statement .readDirectory := fun _ _ h => nomatch h
theorem readPolicers : Statement .readPolicers := fun _ _ h => nomatch h
theorem readPools : Statement .readPools := fun _ _ h => nomatch h
theorem readQueues : Statement .readQueues := fun _ _ h => nomatch h
theorem readDevice : Statement .readDevice := fun _ _ h => nomatch h
theorem readNext : Statement .readNext := fun _ _ h => nomatch h
theorem readStatsKey : Statement .readStatsKey := fun _ _ h => nomatch h
theorem readStatsPort : Statement .readStatsPort := fun _ _ h => nomatch h
theorem readStatsDevice : Statement .readStatsDevice := fun _ _ h => nomatch h
theorem status : Statement .status := fun _ _ h => nomatch h
theorem restartTraffic : Statement .restartTraffic := fun _ _ h => nomatch h
theorem restartFull : Statement .restartFull := fun _ _ h => nomatch h
theorem shadowCreateAnswer : ∀ b, Statement (.shadowCreateAnswer b) := by intros; intro _ _ h; cases h
theorem shadowWriteAnswer : ∀ b, Statement (.shadowWriteAnswer b) := by intros; intro _ _ h; cases h
theorem shadowDiscardAnswer : ∀ b, Statement (.shadowDiscardAnswer b) := by intros; intro _ _ h; cases h
theorem ownerReadAnswer : ∀ b, Statement (.ownerReadAnswer b) := by intros; intro _ _ h; cases h
theorem checkReadAnswer : ∀ r, Statement (.checkReadAnswer r) := by intros; intro _ _ h; cases h
theorem preferredLaneAnswer : Statement .preferredLaneAnswer := fun _ _ h => nomatch h
theorem swapReport : Statement .swapReport := fun _ _ h => nomatch h
theorem swapDone : ∀ b, Statement (.swapDone b) := by intros; intro _ _ h; cases h
theorem reconciliationDone : ∀ b, Statement (.reconciliationDone b) := by intros; intro _ _ h; cases h
theorem agentReserveGrantAnswer : Statement .agentReserveGrantAnswer := fun _ _ h => nomatch h
theorem agentEnqueueAnswer : Statement .agentEnqueueAnswer := fun _ _ h => nomatch h
theorem handoffAnswer : Statement .handoffAnswer := fun _ _ h => nomatch h
theorem watchReturned : Statement .watchReturned := fun _ _ h => nomatch h
theorem restartDone : ∀ b, Statement (.restartDone b) := by intros; intro _ _ h; cases h
theorem sessionTimerExpiry : Statement .sessionTimerExpiry := fun _ _ h => nomatch h
theorem noticeRaise : ∀ kind detail, Statement (.noticeRaise kind detail) := by intros; intro _ _ h; cases h
theorem pacingExpiry : Statement .pacingExpiry := fun _ _ h => nomatch h

end Sys2Proof.Laws.Unspelled
end

