-- ==== Sys2Proof/Laws/Recovery.lean ====
section
/-! SUPPORT. Recovery.lean: all that a judgement and a recorded acceptance can do to a recovery record (R53 to R66). -/

namespace Sys2Proof.Machine

/-- A judgement leaves the record, resets it, or changes its consecutive-rogue count; only a reset releases frames. -/
theorem judge_cases (w rogue : Nat) (r : Recovery) (c : InCounts) (s : Seq) (f : Bool) :
    let j := judge w rogue r c s f
    (j.recov = r ∧ j.released = [] ∧ j.alarm = false) ∨
      (j.recov = r.reset ∧ (j.released = r.held ∨ r.tracking = none ∧ j.released = []) ∧ j.judged = .candidate .takeAny) ∨
      (∃ n, j.recov = { r with rogue := n } ∧ j.released = [] ∧ j.alarm = false ∧ j.judged = .outOfWindow) := by
  simp only [judge]
  split
  · rename_i h
    exact .inr (.inl ⟨rfl, .inr ⟨h, rfl⟩, rfl⟩)
  · split
    · exact .inl ⟨rfl, rfl, rfl⟩
    · exact .inl ⟨rfl, rfl, rfl⟩
    · exact .inr (.inl ⟨rfl, .inl rfl, rfl⟩)
    · exact .inl ⟨rfl, rfl, rfl⟩
    · split
      · exact .inr (.inl ⟨rfl, .inl rfl, rfl⟩)
      · exact .inr (.inr ⟨_, rfl, rfl, rfl, rfl⟩)

/-- A recorded acceptance leaves the record TRACKING with its rogue count 0, and its creation number stays. -/
theorem accept_tracks (w silence : Nat) (inOrder : Bool) (now : Nat) (r : Recovery) (s : Seq) (e : Option Held) :
    let x := (accept w silence inOrder now r s e).recov
    x.tracking.isSome = true ∧ x.rogue = 0 ∧ x.born = r.born := by
  simp only [accept]
  split
  · exact ⟨rfl, rfl, rfl⟩
  · split <;> exact ⟨rfl, rfl, rfl⟩

/-- The hold timer runs exactly while frames are held (R86). -/
theorem earliest_eq_none {hs : List Held} : earliest hs = none ↔ hs = [] := by
  cases hs with
  | nil => simp [earliest]
  | cons h hs => cases he : earliest hs <;> simp [earliest, he]

/-- A frame joining a hold list leaves one frame more. -/
theorem joinHold_length (n : Seq) (h : Held) (hs : List Held) : (joinHold n h hs).length = hs.length + 1 := by
  induction hs with
  | nil => rfl
  | cons x xs ih =>
    simp only [joinHold]
    split
    · rfl
    · simp [ih]

end Sys2Proof.Machine
end

