-- ==== Sys2Proof/Laws/Requests.lean ====
section
/-! SUPPORT. Requests.lean: the take of a request, up to the rule that serves it (R155 to R162). -/

namespace Sys2Proof.Machine

/-! ## What the take leaves of the agent -/

@[simp] theorem Agent.begin_mode (a : Agent) (e : RequestEntry) (r : List RequestEntry) (n : Nat) :
    (a.begin e r n).mode = a.mode := by
  simp only [Agent.begin]; split <;> rfl

@[simp] theorem Agent.begin_cache (a : Agent) (e : RequestEntry) (r : List RequestEntry) (n : Nat) :
    (a.begin e r n).cache = a.cache := by
  simp only [Agent.begin]; split <;> rfl

@[simp] theorem Agent.begin_progress (a : Agent) (e : RequestEntry) (r : List RequestEntry) (n : Nat) :
    (a.begin e r n).progress = a.progress := by
  simp only [Agent.begin]; split <;> rfl

@[simp] theorem Agent.begin_shadow (a : Agent) (e : RequestEntry) (r : List RequestEntry) (n : Nat) :
    (a.begin e r n).shadow = a.shadow := by
  simp only [Agent.begin]; split <;> rfl

@[simp] theorem Agent.begin_params (a : Agent) (e : RequestEntry) (r : List RequestEntry) (n : Nat) :
    (a.begin e r n).params = a.params := by
  simp only [Agent.begin]; split <;> rfl

@[simp] theorem Agent.begin_queue (a : Agent) (e : RequestEntry) (r : List RequestEntry) (n : Nat) :
    (a.begin e r n).queue = r := by
  simp only [Agent.begin]

/-- A take never changes who holds the session (R161, R162). -/
@[simp] theorem Agent.begin_holds (a : Agent) (e : RequestEntry) (r : List RequestEntry) (n : Nat) (t : Word32) :
    (a.begin e r n).holds t = a.holds t := by
  have h : (a.begin e r n).session.map (·.token) = a.session.map (·.token) := by
    simp only [Agent.begin]
    split
    · simp only [Agent.startTimer]; cases a.session <;> rfl
    · rfl
  simp only [Agent.holds]
  cases h1 : (a.begin e r n).session <;> cases h2 : a.session <;> simp [h1, h2] at h <;> simp [h]

@[simp] theorem Agent.begin_retransmission (a : Agent) (e : RequestEntry) (r : List RequestEntry) (n : Nat)
    (p : List Byte) : (a.begin e r n).retransmission p = a.retransmission p := by
  simp only [Agent.retransmission, Agent.begin_cache, Agent.begin_progress]

@[simp] theorem Agent.begin_refusal (a : Agent) (e : RequestEntry) (r : List RequestEntry) (n : Nat) (t : Word32)
    (c : Access) : (a.begin e r n).refusal t c = a.refusal t c := by
  simp only [Agent.refusal, Agent.begin_mode, Agent.begin_holds]

/-- A request just taken is at the stage REPLYING. -/
theorem Agent.begin_setStage (a : Agent) (e : RequestEntry) (r : List RequestEntry) (n : Nat) :
    (a.begin e r n).setStage .replying = a.begin e r n := by
  simp only [Agent.setStage, Agent.begin]; split <;> rfl

/-- The session at a take (R162): what the take's test of the token and the timer's start come to. -/
theorem Agent.sessionAt_eq (a : Agent) (p : List Byte) (n : Nat) :
    (if a.renews p then a.startTimer n else a).session = a.sessionAt p n := by
  rw [apply_ite Agent.session]
  simp only [Agent.sessionAt, Agent.startTimer]
  cases h : a.session with
  | none => simp
  | some x =>
    have hr : a.renews p = (a.mode == .session && decide (4 ≤ p.length) && x.token == reqToken p) := by
      simp only [Agent.renews, Agent.holds, h]
    simp only [hr]
    by_cases h1 : a.mode = .session <;> by_cases h2 : 4 ≤ p.length <;> by_cases h3 : x.token = reqToken p <;>
      simp [h1, h2, h3, eq_comm (a := reqToken p)]

/-- The take of a request, field by field (R155, R162). -/
theorem Agent.begin_eq (a : Agent) (e : RequestEntry) (r : List RequestEntry) (n : Nat) :
    a.begin e r n =
      { a with
        queue := r, expiryDeferred := false, session := a.sessionAt (framePayload e.buf) n,
        hand := some { side := e.side, payload := framePayload e.buf, stage := .replying } } := by
  rw [← Agent.sessionAt_eq]
  simp only [Agent.begin]
  split <;> rfl

/-- The words of Safety.lean for a request taken, in terms of the take. -/
theorem State.handling_eq (s : State) (e : RequestEntry) (rest : List RequestEntry) (g : HandStage) :
    s.handling e rest g = s.withAgt ((s.agt.begin e rest s.clock.millis).setStage g) := by
  rw [Agent.begin_eq]; rfl

/-! ## From the command to its rule -/

/-- The command of the head request's row takes it. -/
theorem exec_takes_head {s : State} {e : RequestEntry} {rest : List RequestEntry} {p : List Byte}
    (h : s.headRequest e rest p) :
    exec (requestRow p).instr s =
      .next ((s.withAgt (s.agt.begin e rest s.clock.millis)).handleRequest
        { side := e.side, payload := p, stage := .replying }) := by
  obtain ⟨h1, h2, h3⟩ := h
  have h0 : exec (requestRow p).instr s = s.takeRequest (requestRow p) := by
    cases requestRow p <;> rfl
  rw [h0]
  simp only [State.takeRequest, h1, h2, h3, and_self, if_true]

/-- A well-formed request that is no retransmission and is not refused is served by its rule. -/
theorem exec_serves_head {s : State} {e : RequestEntry} {rest : List RequestEntry} {p : List Byte} {r : Req}
    (h : s.headIs e rest p r) (ha : s.agt.refusal (reqToken p) r.access = none) :
    exec (requestRow p).instr s =
      .next ((s.withAgt (s.agt.begin e rest s.clock.millis)).serve
        { side := e.side, payload := p, stage := .replying } r) := by
  obtain ⟨h1, h2, h3⟩ := h
  rw [exec_takes_head h1]
  simp only [State.handleRequest, State.withAgt, Agent.begin_retransmission, h2, h3, Agent.begin_refusal, ha]

/-- No request of the holder in SESSION is refused (R160). -/
theorem Agent.inSession_refusal {a : Agent} {p : List Byte} (h : a.inSession p) (c : Access) :
    a.refusal (reqToken p) c = none := by
  obtain ⟨h1, h2⟩ := h
  cases c <;> simp [Agent.refusal, h1, h2]

/-- A well-formed request has at least nine bytes (R10, R13). -/
theorem parseRequest_length {p : List Byte} {r : Req} (h : parseRequest p = .ok r) : 9 ≤ p.length := by
  simp only [parseRequest] at h
  split at h
  · cases h
  · omega

end Sys2Proof.Machine
end

