-- ==== Sys2Proof/Laws/Streams.lean ====
section
/-! SUPPORT. Streams.lean: finding and changing a stream by its key, at the merge engine and at the replicator (R46, R118);
what a late enqueue answer does there (R132). -/

namespace Sys2Proof.Machine

/-- A stream found has the key it was sought by. -/
theorem Merge.find_some {m : Merge} {k : Key} {st : Stream} (h : m.find k = some st) : st ∈ m.streams ∧ st.key = k :=
  ⟨List.mem_of_find?_eq_some h, by simpa using List.find?_some h⟩

/-- A change of one stream that keeps its key keeps all the keys. -/
theorem Merge.upd_keys (m : Merge) (k : Key) (f : Stream → Stream) (h : ∀ st, (f st).key = st.key) :
    (m.upd k f).streams.map (·.key) = m.streams.map (·.key) := by
  simp only [Merge.upd, List.map_map]
  apply List.map_congr_left
  intro st _
  simp only [Function.comp_apply]
  split
  · exact h st
  · rfl

/-- A change of one stream leaves the rest of the merge engine alone. -/
theorem Merge.upd_frame (m : Merge) (k : Key) (f : Stream → Stream) :
    m.upd k f = { m with streams := (m.upd k f).streams } := rfl

/-- A stream found after a change of one stream that keeps its key. -/
theorem Merge.find_upd (m : Merge) (k k' : Key) (f : Stream → Stream) (h : ∀ st, (f st).key = st.key) :
    (m.upd k f).find k' = (m.find k').map fun st => if st.key = k then f st else st := by
  simp only [Merge.find, Merge.upd]
  induction m.streams with
  | nil => rfl
  | cons st sts ih =>
    have hk : (if st.key = k then f st else st).key = st.key := by
      split
      · exact h st
      · rfl
    simp only [List.map_cons, List.find?_cons, hk]
    split
    · rfl
    · exact ih

/-- The frames held after a change of one stream that holds no more than before. -/
theorem Merge.holdInUse_upd_le (m : Merge) (k : Key) (f : Stream → Stream)
    (h : ∀ st, (f st).recov.held.length ≤ st.recov.held.length) : (m.upd k f).holdInUse ≤ m.holdInUse := by
  simp only [Merge.holdInUse, Merge.upd, List.map_map]
  induction m.streams with
  | nil => simp
  | cons st sts ih =>
    simp only [List.map_cons, List.sum_cons, Function.comp_apply]
    refine Nat.add_le_add ?_ ih
    split
    · exact h st
    · exact Nat.le_refl _

/-- A record reset to FRESH holds nothing. -/
@[simp] theorem Recovery.reset_held (r : Recovery) : r.reset.held = [] := rfl

/-- The end of a handling, in the statements' word for it (R51). -/
theorem State.mergeEnd_eq (s : State) : s.mergeEnd = s.handled := rfl

/-- After the end of a handling every event still deferred waits (R51, R88). -/
theorem State.handled_waits {s : State} {e : MergeDeferred} (h : e ∈ s.handled.mrg.deferred) :
    e ∈ s.mrg.deferred ∧ s.handled.mergeWaits e = true := List.mem_filter.mp h

/-- A stream of the replicator found has the key it was sought by. -/
theorem Replicator.find_some {r : Replicator} {k : Key} {st : OutStream} (h : r.find k = some st) :
    st ∈ r.streams ∧ st.key = k :=
  ⟨List.mem_of_find?_eq_some h, by simpa using List.find?_some h⟩

/-- A change of one stream of the replicator that keeps its key keeps all the keys. -/
theorem Replicator.upd_keys (r : Replicator) (k : Key) (f : OutStream → OutStream) (h : ∀ st, (f st).key = st.key) :
    (r.upd k f).streams.map (·.key) = r.streams.map (·.key) := by
  simp only [Replicator.upd, List.map_map]
  apply List.map_congr_left
  intro st _
  simp only [Function.comp_apply]
  split
  · exact h st
  · rfl

/-- What a late enqueue answer can do: with no answer due it releases the reference it names; the last answer due releases the
reference held and ends the record of the handling; an earlier one only takes its lane off the record (R132, log 29). -/
theorem State.repLateAnswer_cases (s : State) (l : Lane) (n : Nat) (ref : FrameRef) :
    ((∀ y ∈ s.rep.late, y.hand ≠ n) ∧ s.repLateAnswer l n ref = s.send [.release ref]) ∨
      ∃ x ∈ s.rep.late, x.hand = n ∧
        (x.waiting.erase l = [] ∧
            s.repLateAnswer l n ref =
              (s.withRep { s.rep with late := s.rep.late.filter fun y => !(y.hand == n) }).send [.release x.ref] ∨
          x.waiting.erase l ≠ [] ∧
            s.repLateAnswer l n ref = s.withRep
              { s.rep with
                late := s.rep.late.map fun y =>
                  if y.hand = n then { y with waiting := x.waiting.erase l } else y }) := by
  unfold State.repLateAnswer
  split
  · rename_i hx
    exact .inl ⟨by simpa using hx, rfl⟩
  · rename_i x hx
    refine .inr ⟨x, List.mem_of_find?_eq_some hx, by simpa using List.find?_some hx, ?_⟩
    by_cases he : x.waiting.erase l = []
    · exact .inl ⟨he, by simp [he]⟩
    · exact .inr ⟨he, by simp [he]⟩

/-- Of the late answers of a handling whose answers are due, one release is sent in all: where an answer releases, no entry of
the handling stays, and where it does not, nothing is sent (R110). -/
theorem State.repLateAnswer_once {s : State} {n : Nat} (l : Lane) (ref : FrameRef) (h : ∃ x ∈ s.rep.late, x.hand = n) :
    (s.repLateAnswer l n ref).net = s.net ∨
      (∃ x ∈ s.rep.late, x.hand = n ∧ (s.repLateAnswer l n ref).net = s.net ++ [.release x.ref]) ∧
        ∀ y ∈ (s.repLateAnswer l n ref).rep.late, y.hand ≠ n := by
  obtain ⟨z, hz, hn⟩ := h
  obtain ⟨hno, -⟩ | ⟨x, hx, hxn, ⟨-, he⟩ | ⟨-, he⟩⟩ := s.repLateAnswer_cases l n ref
  · exact absurd hn (hno z hz)
  · refine .inr ⟨⟨x, hx, hxn, by simp [he]⟩, fun y hy => ?_⟩
    simp [he] at hy
    exact hy.2
  · exact .inl (by simp [he])

end Sys2Proof.Machine
end

