-- ==== Sys2Proof/Tests/Slice0.lean ====
section
/-! SUPPORT. Slice0.lean: the model's own tests. The witness theorems show that the hypotheses of each statement can be met
together; the test theorems check one command or one operation against a value the manual gives. -/

namespace Sys2Proof.Tests

open Sys2Proof.Machine

/-! ## Small states and bytes -/

/-- The part after reset with messages on their way. -/
def sending (ms : List Msg) : State := { State.reset with net := ms }

/-- An untrailed frame with a zero check (only receivers test the check). -/
def plain (kind cls key : Nat) (payload : List Byte) : List Byte :=
  [BitVec.ofNat 8 (16 * kind + 1), BitVec.ofNat 8 (64 * cls)] ++ toBE 3 key ++ [17] ++ toBE 2 payload.length ++ payload ++
    [0, 0, 0, 0]

/-- A trailed frame with a zero check. -/
def marked (kind key seq mark : Nat) (payload : List Byte) : List Byte :=
  [BitVec.ofNat 8 (16 * kind + 1), 0x20] ++ toBE 3 key ++ [17] ++ toBE 2 payload.length ++ toBE 2 seq ++
    [BitVec.ofNat 8 mark, 0] ++ payload ++ [0, 0, 0, 0]

/-- A request payload with token 0x00000A01 and number 1. -/
def request (kind table count : Nat) (operands : List Byte) : List Byte :=
  toBE 4 0xA01 ++ toBE 2 1 ++ [BitVec.ofNat 8 kind, BitVec.ofNat 8 table, BitVec.ofNat 8 count] ++ operands

/-- The request entry of a payload from T. -/
def entryOf (p : List Byte) : RequestEntry := { side := .t, len := p.length, buf := plain 2 3 0xFFFF00 p }

/-- The part with one request waiting at the agent. -/
def asked (p : List Byte) : State := { State.reset with agt := { State.reset.agt with queue := [entryOf p] } }

/-- The same with a session held by token 0x00000A01 and a shadow status. -/
def askedIn (sh : ShadowStatus) (p : List Byte) : State :=
  { State.reset with
    agt :=
      { State.reset.agt with
        queue := [entryOf p], mode := .session, session := some { token := 0xA01, timer := some 30000 }, shadow := sh } }

/-- The record of 0x00B200: INBOUND, PASS-FIRST, W 8, rogue threshold 4, silence time 500 ms, strip set. -/
def inRecord : DirRecord :=
  { key := 0x00B200,
    fields := .inbound { mode := .passFirst, strip := true, window := 8, rogue := 4, silence := 500 },
    policer := none, pool := 0, cls := .keep }

/-- The record of 0x00A137: OUTBOUND on both lanes, class 2, pool 2, policer 5. -/
def outRecord : DirRecord :=
  { key := 0x00A137, fields := .outbound { l0 := true, l1 := true }, policer := some 5, pool := 2, cls := .fixed .c2 }

/-! ## WellFormed: each check refuses an ill-formed command -/

theorem test_wf_record_key : (Instr.silenceExpiry (.key 0)).wf = false ∧ (Instr.silenceExpiry (.key 1)).wf = true := by
  decide
theorem test_wf_hold_key : (Instr.holdTimerExpiry 0).wf = false ∧ (Instr.holdTimerExpiry 1).wf = true := by decide
theorem test_wf_grant : (Instr.grantRequest .agent).wf = false ∧ (Instr.grantRequest .merge).wf = true := by decide
theorem test_wf_reserve :
    (Instr.reserveGrantRequest .merge).wf = false ∧ (Instr.reserveGrantRequest .agent).wf = true := by decide
theorem test_wf_counter_entry :
    (Instr.counterEntryCreate .agent 1).wf = false ∧ (Instr.counterEntryDelete .merge 0).wf = false ∧
      (Instr.counterEntryDelete .replicator 1).wf = true := by decide
theorem test_wf_enqueue : (Instr.enqueueRequest .admission).wf = false ∧ (Instr.enqueueRequest .agent).wf = true := by decide
theorem test_wf_shadow :
    (Instr.shadowCreateAnswer .merge).wf = false ∧ (Instr.shadowWriteAnswer .agent).wf = false ∧
      (Instr.shadowDiscardAnswer (.receiver .t)).wf = false ∧ (Instr.shadowCreateAnswer .egress).wf = true := by decide
theorem test_wf_answers :
    (Instr.ownerReadAnswer .agent).wf = false ∧ (Instr.restartDone .agent).wf = false ∧
      (Instr.swapDone .classifier).wf = false ∧ (Instr.reconciliationDone .egress).wf = false ∧
      (Instr.swapDone .admission).wf = true := by decide
theorem test_wf_detail :
    (Instr.noticeRaise .poolExhausted 8).wf = false ∧ (Instr.noticeRaise .sessionEnd 1).wf = false ∧
      (Instr.noticeRaise .laneChange 2).wf = false ∧ (Instr.noticeRaise .crossedLane 2).wf = false ∧
      (Instr.noticeRaise .unknownStream 0).wf = false ∧ (Instr.noticeRaise .laneChange 257).wf = true := by decide

/-! ## Bytes (01) -/

/-- R7: the CRC-32 of no bytes and of the ASCII digits 1 to 9. -/
theorem test_crc_values :
    crc32 [] = 0x00000000 ∧ crc32 [0x31, 0x32, 0x33, 0x34, 0x35, 0x36, 0x37, 0x38, 0x39] = 0xFC891918 := by
  decide +kernel

/-- 01, "Worked layout": the 112-byte frame is stamped to the 112 bytes before its check, 116 with it. -/
theorem test_worked_layout :
    let f := plain 1 2 0x00A137 (List.replicate 100 0x55)
    let w := stampFrame f 65535 false
    f.length = 112 ∧ byteAt f 1 = 0x80 ∧ w.length = 112 ∧ byteAt w 1 = 0xA0 ∧ frameSeq w = 65535 ∧ byteAt w 11 = 0 ∧
      frameLength w = 116 ∧ blocksFor (frameLength w) = 1 ∧ payloadLen w = 100 := by decide +kernel

/-- 01, "Worked layout", on a short frame: the L1 copy carries mark 0x01 and its own check; stripped, byte 1 is back. -/
theorem test_lane_copy_and_strip :
    let l1 := markedCopy (stampFrame (plain 1 2 0x00A137 [0x55]) 65535 false) .l1
    frameMark l1 = 1 ∧ checkOk l1 = true ∧ l1.length = 17 ∧ byteAt (strippedCopy l1) 1 = 0x80 ∧
      checkOk (strippedCopy l1) = true ∧ (strippedCopy l1).length = 13 := by decide +kernel

/-- R3: a frame of kind 5, of version 2 or of key 0 is malformed. -/
theorem test_malformed_headers :
    headerOk (plain 1 0 1 []) = true ∧ headerOk (plain 5 0 1 []) = false ∧ headerOk (plain 1 0 0 []) = false ∧
      headerOk (0x12 :: (plain 1 0 1 []).tail) = false := by decide

/-! ## Recovery records (03, 04) -/

/-- A TRACKING record of window `win` with lead `l`. -/
def tracking (l : Seq) (win : List Pos) (o : Option Ordered) : Tracking :=
  { lead := l, window := win, silence := none, ordered := o }

/-- 03, "across the wrap", entry 7: from L = 0 the copy of 2 is accepted; L becomes 2, 1 enters OPEN, nothing is lost. -/
theorem test_across_the_wrap :
    let r : Recovery := { born := 0, rogue := 0, tracking := some (tracking 0 (List.replicate 8 .accepted) none) }
    let x := accept 8 500 false 0 r 2 none
    (judge 8 4 r .zero 2 false).judged = .candidate .deliver ∧ x.lost = 0 ∧
      x.recov.tracking =
        some { lead := 2, window := [.accepted, .vacant] ++ List.replicate 6 .accepted, silence := some 500, ordered := none } ∧
      (judge 8 4 x.recov .zero 65535 false).judged = .duplicate ∧
      (judge 8 4 x.recov .zero 1 false).judged = .candidate .deliver := by decide

/-- 03, "a rogue reset", entries 2 and 3: the third out-of-window copy resets the record and is a take-any at 2. -/
theorem test_rogue_reset :
    let r : Recovery := { born := 0, rogue := 1, tracking := some (tracking 1000 (List.replicate 16 .accepted) none) }
    let j := judge 16 3 r .zero 1 false
    let k := judge 16 3 j.recov j.counts 2 false
    let x := accept 16 0 false 0 k.recov 2 none
    j.judged = .outOfWindow ∧ j.recov.rogue = 2 ∧ k.judged = .candidate .takeAny ∧ k.alarm = true ∧
      k.counts.outOfWindow = 2 ∧ k.counts.resets = 1 ∧ (judge 16 3 x.recov .zero 1 false).judged = .late ∧
      (judge 16 3 x.recov .zero 2 false).judged = .duplicate := by decide

/-- A held frame of sequence `q` and deadline `d`. -/
def heldAt (q : Seq) (d : Nat) : Held := { seq := q, ref := { id := q.toNat, restart := 0 }, deadline := d, cls := .c2 }

/-- 04, "a gap closed by the other lane", entry 3: 41 is delivered at N, and 42 and 43 follow it; N becomes 44. -/
theorem test_gap_closed :
    let o : Ordered := { nxt := 41, held := [heldAt 42 200, heldAt 43 230], timer := some 200 }
    let r : Recovery :=
      { born := 0, rogue := 0,
        tracking := some (tracking 43 ([.accepted, .accepted, .vacant] ++ List.replicate 5 .accepted) (some o)) }
    let x := accept 8 0 true 45 r 41 none
    (judge 8 0 r .zero 41 false).judged = .candidate .deliver ∧ x.lost = 0 ∧
      x.released = [heldAt 42 200, heldAt 43 230] ∧
      (x.recov.tracking.bind fun t => t.ordered) = some { nxt := 44, held := [], timer := none } := by decide

/-- 04, "a gap declared lost by expiry", events 8 and 9: f is 42; 42 to 45 leave, 41 is lost, and its late copy is LATE. -/
theorem test_gap_lost :
    let o : Ordered := { nxt := 41, held := [heldAt 42 200, heldAt 43 230, heldAt 44 310, heldAt 45 260], timer := some 200 }
    let t := tracking 45 ([.accepted, .accepted, .accepted, .accepted, .vacant] ++ List.replicate 3 .accepted) (some o)
    let x := expireHold 200 t o
    x.2.1 = 1 ∧ x.2.2.map (·.seq) = [42, 43, 44, 45] ∧ x.1.ordered = some { nxt := 46, held := [], timer := none } ∧
      (judge 8 0 { born := 0, rogue := 0, tracking := some x.1 } .zero 41 false).judged = .late := by decide

/-- 04, "a window push", entry 1: 13 is held; 9 and 10 leave below the new bottom, 8 is lost, N becomes 11. -/
theorem test_window_push :
    let o : Ordered := { nxt := 8, held := [heldAt 9 400, heldAt 10 500], timer := some 400 }
    let r : Recovery :=
      { born := 0, rogue := 0, tracking := some (tracking 10 [.accepted, .accepted, .vacant, .accepted] (some o)) }
    let x := accept 4 0 true 0 r 13 (some (heldAt 13 900))
    x.lost = 1 ∧ x.released = [heldAt 9 400, heldAt 10 500] ∧
      (x.recov.tracking.bind fun t => t.ordered) = some { nxt := 11, held := [heldAt 13 900], timer := some 900 } := by
  decide

/-! ## Admission (05) -/

/-- 05, "a shared policer": at credit 1221 a frame of 1200 bytes is granted and leaves 21; at 846 it is over-rate. -/
theorem test_shared_policer :
    let p (c : Nat) : Policer := { enabled := true, ceiling := 3000, refill := 25, credit := c }
    let q : GrantReq := { who := .merge, hand := 1, stream := some 0x00B200, len := 1200, policer := some 5, pool := 0 }
    let s (c : Nat) : State :=
      { sending [.grant q] with adm := { Admission.powerOn with policers := Admission.powerOn.policers.set 5 (p c) } }
    (∃ t, exec (.grantRequest .merge) (s 1221) = .next t ∧ (t.adm.policers[5]).credit = 21 ∧ t.adm.free = 2043) ∧
    (∃ t, exec (.grantRequest .merge) (s 846) = .next t ∧ (t.adm.policers[5]).credit = 846 ∧
      t.net = [.grantAns .merge 1 .overRate]) :=
  ⟨⟨_, rfl, by decide, by decide⟩, ⟨_, rfl, by decide, by decide⟩⟩

/-- 05, "a lowered quota", rows 1 and 2: pool 1 over its quota refuses 2 blocks; pool 3 is granted 5, leaving 105 free. -/
theorem test_lowered_quota :
    let q (pool : Fin 8) (len : Nat) : GrantReq :=
      { who := .merge, hand := 1, stream := none, len := len, policer := none, pool := pool }
    let s (m : GrantReq) : State :=
      { sending [.grant m] with
        adm :=
          { Admission.powerOn with
            quotas := #v[1992, 20, 0, 20, 0, 0, 0, 0], inUse := #v[1900, 36, 0, 0, 0, 0, 0, 0], reserve := 2,
            free := 110 } }
    (∃ t, exec (.grantRequest .merge) (s (q 1 512)) = .next t ∧ t.adm.free = 110 ∧
      t.net = [.grantAns .merge 1 .noBuffer, .notice .poolExhausted 1]) ∧
    (∃ t, exec (.grantRequest .merge) (s (q 3 1280)) = .next t ∧ t.adm.free = 105 ∧ t.adm.inUse[3] = 5) :=
  ⟨⟨_, rfl, by decide, by decide⟩, ⟨_, rfl, by decide, by decide⟩⟩

/-! ## Notices (10) -/

/-- 10, "a burst of notices", rows 1, 2 and 4: two lane changes coalesce with the first detail and time. -/
theorem test_notices_coalesce :
    (raiseIn 1095 .laneChange 257 (raiseIn 1030 .unknownStream 0xC000 (raiseIn 1012 .laneChange 1 []))).map
        (fun n => (n.kind, n.count, n.detail, n.time)) =
      [(.laneChange, 2, 1, 1012), (.unknownStream, 1, 0xC000, 1030)] := by decide

/-! ## Requests (08) -/

/-- 08, "two managers", row 4: the CLOSE of a token that does not hold the session is answered NOT-HOLDER. -/
theorem test_not_holder :
    ((askedIn .absent (request 0x02 0 0 [])).agt.refusal 0xB02 .holder = some .notHolder) ∧
      (parseRequest (request 0x02 0 0 [])).toOption = some .closeSession := by decide

/-- Why a request payload is malformed. -/
def reasonOf (p : List Byte) : Option (Reason × Nat) :=
  match parseRequest p with
  | .error e => some e
  | .ok _ => none

/-- R13: the checks of a request payload in their order, each with its reason. -/
theorem test_malformed_requests :
    reasonOf (request 0x01 0 0 [0]) = some (.short, 0) ∧ reasonOf (request 0x77 0 0 []) = some (.unknownKind, 0) ∧
      reasonOf (request 0x01 1 0 []) = some (.tableMismatch, 0) ∧
      reasonOf (request 0x30 0 0 [3]) = some (.fieldRange, 0) ∧
      reasonOf (request 0x22 0 0 [1, 0, 0, 0, 0, 0]) = some (.zeroKey, 0) := by decide

/-! ## Witnesses: the part as a whole and its laws -/

theorem witness_StepRunsTheFrontCommand :
    ({ State.reset with pending := [.timeCountTick, .refillExpiry] } : State).pending = .timeCountTick :: [.refillExpiry] ∧
      State.reset.pending = [] := ⟨rfl, rfl⟩

/-- A change of L1's link: the classifier, the merge engine and the others are not its home. -/
theorem witness_BlocksChangeAtTheirOwnEvents :
    let c : Instr := .linkChange .l1 .up
    c.home.isSome = true ∧ (∃ t, exec c State.reset = .next t) ∧ c.home ≠ some (.receiver .l0) ∧ c ≠ .classify .l0 ∧
      c.home ≠ some .classifier ∧ c.home ≠ some .merge ∧ c.home ≠ some .replicator ∧ c.home ≠ some .agent ∧
      c.home ≠ some .egress ∧ c.home ≠ some .admission ∧ c ≠ .agentEnqueueAnswer ∧
      c ≠ .handoffAnswer :=
  ⟨rfl, ⟨_, rfl⟩, by decide, by decide, by decide, by decide, by decide, by decide, by decide, by decide, by decide, by decide⟩

/-- The part with the RESTART's own reply at T, its enqueue answered full. -/
def refusedReply : State :=
  { sending [.enqueueAns .output { id := 7, restart := 0 } .full] with
    agt :=
      { State.reset.agt with
        output := some { reply := true, restart := true, path := .toT [] (some { id := 7, restart := 0 }) } } }

/-- The part with the RESTART's own reply at the lanes, answered sent with no copy placed. -/
def unplacedReply : State :=
  { sending [.handoffAns (.sent { id := 7, restart := 0 } 0)] with
    agt := { State.reset.agt with output := some { reply := true, restart := true, path := .toLanes } } }

/-- A classification, a granted answer, the refused reply of a RESTART, and one of which no lane took a copy. -/
theorem witness_BlocksChangeAtTheirOwnEvents_exceptions :
    (Instr.classify .t).home.isSome = true ∧ (∃ t, exec (.classify .t) State.reset = .next t) ∧
      (sending [.grantAns .merge 0 (.granted { id := 7, restart := 0 })]).granted .mergeGrantAnswer =
        some { id := 7, restart := 0 } ∧
      (∃ t, exec .agentEnqueueAnswer refusedReply = .next t) ∧
      takeFirst selOutputAns refusedReply.net = some (({ id := 7, restart := 0 }, .full), []) ∧
      (∃ t, exec .handoffAnswer unplacedReply = .next t) ∧
      takeFirst selHandoffAns unplacedReply.net = some (.sent { id := 7, restart := 0 } 0, []) :=
  ⟨rfl, ⟨_, rfl⟩, rfl, ⟨_, rfl⟩, rfl, ⟨_, rfl⟩, rfl⟩

/-- A staged bank of one record, its swap asked for. -/
def staged : State :=
  { sending [.swap .classifier] with
    cls := { State.reset.cls with shadow := some { bank := [inRecord], params := .default } } }

theorem witness_ConfigurationChangesAtSwapsAndResets :
    (∃ t, exec .classifierSwap staged = .next t ∧ t.cls.gen = staged.cls.gen + 1 ∧ t.cls.bank = [inRecord]) ∧
      (∃ t, exec .recordWrite staged = .next t) ∧ classifierChange .recordWrite = false ∧
      admissionChange .recordWrite = false ∧ limitChange .recordWrite = false := by
  exact ⟨⟨_, rfl, by decide, rfl⟩, ⟨_, rfl⟩, rfl, rfl, rfl⟩

/-- A check that waits for its last answer, that of quota 9 for pool 0, on its way as `net` or kept as `deferred`. -/
def lastCheckAnswer (net deferred : List Msg) : State :=
  { sending net with
    agt :=
      { State.reset.agt with
        mode := .checking, shadow := .dirty crcStart, deferred := deferred,
        session := some { token := 0xA01, timer := none },
        progress := some { token := 0xA01, number := 1, kind := .check, side := .t },
        check := some { CheckWork.start with waiting := [.pool 0] } } }

/-- The last answer of a check makes the shadow CHECKED, whether it comes now or was deferred. -/
theorem witness_ConfigurationChangesAtSwapsAndResets_checked :
    let m : Msg := .checkAns (.pool 0) (.pool { index := 0, quota := 9 })
    (∃ t, exec (.checkReadAnswer (.pool 0)) (lastCheckAnswer [m] []) = .next t ∧ t.agt.shadow = .checked crcStart) ∧
      (∃ t, exec (.checkReadAnswer (.pool 0)) (lastCheckAnswer [] [m]) = .next t ∧ t.agt.shadow = .checked crcStart) ∧
      takeFirst (selCheckAns (.pool 0)) [m] = some (.pool { index := 0, quota := 9 }, []) :=
  ⟨⟨_, rfl, by decide⟩, ⟨_, rfl, by decide⟩, by decide⟩

/-- The swap that `staged` asks for finds a shadow within the limits of R191. -/
theorem witness_ConfigurationChangesAtSwapsAndResets_active :
    staged.ActiveOk ∧ staged.SwapsChecked ∧ ∃ t, step { staged with pending := [.classifierSwap] } = .next t :=
  ⟨⟨by decide, by decide, fun p => by cases p <;> decide⟩,
    ⟨fun _ _ h => by cases h; decide, fun h => absurd h (by decide), fun h => absurd h (by decide)⟩, ⟨_, rfl⟩⟩

theorem witness_MessagesAndEntriesKeepTheirOrder :
    takeFirst (selRestartDone .merge) [.watchReturned, .restartDone .merge, .restartDone .merge] =
        some ((), [.watchReturned, .restartDone .merge]) ∧
      (∀ m ∈ (sending [.watchReturned]).net, selRestartDone .merge m = none) := by decide

/-- The same of an answer that carries contents: the first change of L1's link is the one taken. -/
theorem witness_MessagesAndEntriesKeepTheirOrder_contents :
    takeFirst (selLinkClassifier .l1) [.linkClassifier .l0 .up, .linkClassifier .l1 .up, .linkClassifier .l1 .down] =
      some (.up, [.linkClassifier .l0 .up, .linkClassifier .l1 .down]) := by decide

/-- A part in traffic: one granted frame queued at T and one transmitting, a held frame, a session and a notice. -/
def busy : State :=
  { State.reset with
    pending := [.refillExpiry],
    cls := { State.reset.cls with bank := [outRecord, inRecord] },
    mrg :=
      { Merge.powerOn with
        queue := [.unknown { key := 1, lane := .l0, cls := .c0, len := 20, pool := 0, gen := 0, buf := [] }],
        streams := [{ key := 0x00B200, params := { mode := .inOrder 200, strip := true, window := 2, rogue := 0,
                                                   silence := 0, policer := none, pool := 0, cls := .keep },
                      recov := { born := 0, rogue := 0,
                                 tracking := some (tracking 42 [.accepted, .vacant]
                                   (some { nxt := 41, held := [heldAt 42 200], timer := some 200 })) },
                      counts := .zero }] },
    adm :=
      { Admission.powerOn with
        free := 2046, inUse := #v[2, 0, 0, 0, 0, 0, 0, 0], nextId := 43,
        records := [{ id := 41, source := .pool 0, blocks := 1, count := 2, bytes := [], watch := false },
                    { id := 42, source := .pool 0, blocks := 1, count := 1, bytes := [], watch := false }] },
    egr :=
      { State.reset.egr with
        ports :=
          { State.reset.egr.ports with
            t :=
              { PortEgress.powerOn .up with
                queues := ⟨[{ place := 1, placed := true, ref := { id := 41, restart := 0 }, mark := none, strip := true }],
                           [], [], []⟩,
                tx := some { number := 0, wire := [],
                             copy := { place := 0, placed := true, ref := { id := 41, restart := 0 }, mark := none,
                                       strip := true } } } } },
    agt :=
      { State.reset.agt with
        mode := .session, session := some { token := 0xA01, timer := some 30000 },
        notices := [{ kind := .laneChange, count := 2, detail := 1, time := 1012 }] } }

theorem witness_StepKeepsQueueBounds : busy.QueuesOk ∧ ∃ t, step busy = .next t :=
  ⟨⟨by decide, by decide, by decide⟩, _, rfl⟩
theorem witness_StepKeepsBankOrder : busy.cls.BanksOk ∧ ∃ t, step busy = .next t :=
  ⟨⟨by decide, by decide⟩, _, rfl⟩
theorem witness_StepKeepsCreditsWithinCeilings : busy.adm.CreditsOk ∧ ∃ t, step busy = .next t :=
  ⟨by unfold Admission.CreditsOk; decide, _, rfl⟩
theorem witness_StepKeepsFrameMemoryAccounts : busy.adm.MemoryOk ∧ ∃ t, step busy = .next t :=
  ⟨⟨by decide, by decide, by decide, by decide, by decide, by decide, by decide, by decide⟩, _, rfl⟩
theorem witness_StepKeepsPortsWithinSlotsAndBusy : busy.egr.Ok ∧ ∃ t, step busy = .next t :=
  ⟨fun p => by cases p <;> exact ⟨by decide, by decide, by decide⟩, _, rfl⟩
theorem witness_StepKeepsNoticeList : busy.agt.NoticesOk ∧ ∃ t, step busy = .next t :=
  ⟨⟨by decide, by decide⟩, _, rfl⟩
theorem witness_StepKeepsStreamsAndHoldTable : busy.StreamsOk ∧ ∃ t, step busy = .next t :=
  ⟨⟨by decide, by decide, by decide⟩, _, rfl⟩
theorem witness_StepKeepsSessionLaw : busy.agt.Ok ∧ ∃ t, step busy = .next t :=
  ⟨⟨⟨rfl, rfl, rfl, rfl, rfl⟩, ⟨fun _ h => (nomatch h), fun _ h => (nomatch h)⟩⟩, _, rfl⟩

/-! ## Witnesses: receivers and classifier -/

theorem witness_LinkChangeReachesTheOtherBlocks :
    (State.reset.rx.get .l0).link ≠ .up ∧ (State.reset.rx.get .t).link ≠ .up := by decide

/-- A port with a frame of `n` bytes in reception. -/
def receiving (p : Port) (n : Nat) : State :=
  { State.reset with rx := State.reset.rx.set p { Receiver.powerOn .up with reception := some { bytes := [], length := n } } }

theorem witness_FrameEndTestsInOrder :
    (State.reset.rx.get .l0).reception = none ∧ ((receiving .t 12).rx.get .t).reception = some { bytes := [], length := 12 } :=
  ⟨rfl, rfl⟩

theorem witness_ReceiverAnswersTheAgent :
    takeFirst (selStateRead (.receiver .t)) (sending [.stateRead (.receiver .t)]).net = some ((), []) ∧
      takeFirst (selCounterRead (.receiver .t)) (sending [.counterRead (.receiver .t) (.port .t) true]).net =
        some ((.port .t, true), []) ∧
      takeFirst (selRestart (.receiver .t) .full) (sending [.restart (.receiver .t) .full]).net = some ((), []) := by decide

/-- A frame that awaits classification on a port, under a bank. -/
def awaiting (p : Port) (bank : List DirRecord) (f : List Byte) : State :=
  { State.reset with
    rx := State.reset.rx.set p { Receiver.powerOn .up with awaiting := some f },
    cls := { State.reset.cls with bank := bank, links := ⟨.up, .up⟩ } }

/-- 02, "a run of classifications", frame 2: CROSSED on L1; and a frame of mark 2, BAD-HEADER. -/
theorem witness_LaneFrameHeaderAndLaneMark :
    let f := marked 1 0x00B200 7 0 []
    let g := marked 1 0x00B200 7 2 []
    ((awaiting .l1 [] f).rx.get (lanePort .l1)).awaiting = some f ∧ headerOk f = true ∧ trailed f = true ∧
      frameMark f = 0 ∧ ((awaiting .l1 [] g).rx.get (lanePort .l1)).awaiting = some g ∧ trailed g = true ∧
      1 < frameMark g ∧ frameKind (plain 5 0 1 []) = 5 := by decide

/-- 02, "a run of classifications", frames 1, 3, 4, 6 and 7, and an unknown frame on the preferred lane. -/
theorem witness_LaneFrameByItsKey :
    let bank := [outRecord, inRecord]
    let known := marked 1 0x00B200 7 0 []
    let own := marked 2 0xFFFF00 7 0 []
    let other := marked 1 0x00C000 7 1 []
    ((awaiting .l0 bank known).rx.get (lanePort .l0)).awaiting = some known ∧ headerOk known = true ∧
      frameMark known = 0 ∧ lookup bank (frameKey known) = some .inbound ∧ trailed known = true ∧
      frameKind own = 2 ∧ frameKey own = ownRequestKey 0 ∧ headerOk own = true ∧
      trailed (plain 1 0 0x00B200 []) = false ∧ headerOk (plain 1 0 0x00B200 []) = true ∧
      lookup bank (frameKey (marked 1 0x00A137 7 0 [])) = some .outbound ∧ headerOk other = true ∧
      lookup bank (frameKey other) = none ∧ frameMark other = 1 ∧
      (awaiting .l1 bank other).cls.params.unknownInbound = .preferredLane ∧
      (awaiting .l1 bank other).cls.params.preferredLane = .l0 := by decide

theorem witness_TributaryFrameClassified :
    (awaiting .t [] (plain 1 2 0x00A137 [])).rx.t.awaiting = some (plain 1 2 0x00A137 []) := rfl

theorem witness_ClassifierStaging :
    takeFirst (selShadowCreate .classifier) [.shadowCreate .classifier] = some ((), []) ∧
      takeFirst (selShadowDiscard .classifier) [.shadowDiscard .classifier] = some ((), []) ∧
      takeFirst selRecordWrite [.recordWrite [inRecord]] = some ([inRecord], []) ∧
      takeFirst selRemoval [.removal [0x00B200]] = some ([0x00B200], []) ∧
      takeFirst selEmptyBank [.emptyBank] = some ((), []) ∧
      takeFirst selDeviceWrite [.deviceWrite [.unknownPool 3]] = some ([.unknownPool 3], []) := by decide

theorem witness_RecordWriteInsertsOrReplaces : ascending [outRecord, inRecord] = true := by decide

theorem witness_ChangeListComparesTheBanks :
    ascending [outRecord, inRecord] = true ∧ ascending [inRecord] = true ∧
      changeList [outRecord, inRecord] [inRecord] = [⟨0x00A137, .removed⟩] := by decide

theorem witness_ClassifierReadsLinksAndRestarts :
    takeFirst selRecordRead [.recordRead .active 1] = some ((.active, 1), []) ∧
      takeFirst (selDeviceRead .request) [.deviceRead .request .shadow 3] = some ((.shadow, 3), []) ∧
      takeFirst (selNextRead .check) [.nextRead .check .shadow 0 8] = some ((.shadow, 0, 8), []) ∧
      takeFirst (selLinkClassifier .l1) [.linkClassifier .l1 .up] = some (.up, []) ∧
      takeFirst (selCounterRead .classifier) [.counterRead .classifier .device true] = some ((.device, true), []) ∧
      takeFirst (selCounterRead .classifier) [.counterRead .classifier (.port .t) false] = some ((.port .t, false), []) ∧
      takeFirst (selRestart .classifier .traffic) [.restart .classifier .traffic] = some ((), []) ∧
      takeFirst (selRestart .classifier .full) [.restart .classifier .full] = some ((), []) := by decide

/-! ## Witnesses: recovery records -/

/-- A FRESH record, and a TRACKING one with lead 3 and window 65532 to 3 (R47), position 1 OPEN and 65532 WAIVED. -/
def freshRecord : Recovery := .fresh 0
def wrapped : Tracking :=
  tracking 3 [.accepted, .accepted, .vacant, .accepted, .accepted, .accepted, .accepted, .waived] none

theorem witness_VerdictsByWindowPosition :
    freshRecord.tracking = none ∧ wrapped.window.length = 8 ∧
      (1 ≤ ((10 : Seq) - wrapped.lead).toNat ∧ ((10 : Seq) - wrapped.lead).toNat < 8) ∧
      wrapped.window[(wrapped.lead - (1 : Seq)).toNat]? = some .vacant ∧
      wrapped.window[(wrapped.lead - (3 : Seq)).toNat]? = some .accepted ∧
      wrapped.window[(wrapped.lead - (65532 : Seq)).toNat]? = some .waived ∧
      (8 ≤ ((11 : Seq) - wrapped.lead).toNat ∧ 8 ≤ (wrapped.lead - (11 : Seq)).toNat) ∧
      (8 ≤ ((65531 : Seq) - wrapped.lead).toNat ∧ 8 ≤ (wrapped.lead - (65531 : Seq)).toNat) := by decide

theorem witness_RestartFlagResets :
    freshRecord.tracking = none ∧ wrapped.window.length = 8 ∧
      wrapped.window[(wrapped.lead - (3 : Seq)).toNat]? = some .accepted ∧
      wrapped.window[(wrapped.lead - (65532 : Seq)).toNat]? = some .waived ∧
      wrapped.window[(wrapped.lead - (1 : Seq)).toNat]? = some .vacant := by decide

theorem witness_AcceptanceMovesTheWindow :
    freshRecord.tracking = none ∧ wrapped.ordered = none ∧ wrapped.window.length = 8 ∧
      (1 ≤ ((10 : Seq) - wrapped.lead).toNat ∧ ((10 : Seq) - wrapped.lead).toNat < 8) ∧
      (wrapped.lead - (65532 : Seq)).toNat < 8 := by decide

/-- The record of `busy`, IN-ORDER, W 2, holding 42. -/
def holding : Ordered := { nxt := 41, held := [heldAt 42 200], timer := some 200 }

/-- An IN-ORDER record ahead of whose lead 43 stands, and inside whose window 41 does. -/
theorem witness_AcceptanceMovesTheWindow_inOrder :
    let t := tracking 42 [.accepted, .vacant] (some holding)
    t.ordered.isSome = true ∧ t.window.length = 2 ∧ (1 ≤ ((43 : Seq) - t.lead).toNat ∧ ((43 : Seq) - t.lead).toNat < 2) ∧
      (t.lead - (41 : Seq)).toNat < 2 := by decide

/-- 04, "a window push", row 1: 13 at L 10, W 4 loses the OPEN position 8 alone, and 11 and 12 enter OPEN. -/
theorem test_window_push_lost :
    let o : Ordered := { nxt := 8, held := [heldAt 9 400, heldAt 10 400], timer := some 400 }
    let r : Recovery :=
      { born := 0, rogue := 3, tracking := some (tracking 10 [.accepted, .accepted, .vacant, .accepted] (some o)) }
    let x := accept 4 500 true 20 r 13 (some (heldAt 13 420))
    x.lost = 1 ∧ x.recov.rogue = 0 ∧
      (x.recov.tracking.map fun t => (t.window, t.silence)) = some ([.accepted, .vacant, .vacant, .accepted], some 520) := by
  decide

theorem witness_RecoveryRecordsKeepTheirShape :
    freshRecord.shapeOk 2 true = true ∧
      ({ born := 0, rogue := 0, tracking := some (tracking 42 [.accepted, .vacant] (some holding)) } : Recovery).shapeOk 2
        true = true ∧
      (tracking 42 [.accepted, .vacant] (some holding)).ordered = some holding := by decide

/-- The record of `busy` keeps the laws of R76 and R77: N stands at the window bottom, and 42 is held at the lead. -/
theorem holding_ok : (tracking 42 [.accepted, .vacant] (some holding)).OrderOk holding 2 :=
  ⟨by decide, by decide, by decide, by decide, by decide, by decide, by decide⟩

theorem witness_RecoveryRecordsKeepTheirShape_step :
    busy.RecordsOk ∧ busy.mrg.ChangesFit ∧ busy.mrg.RecoveryOk ∧ ∃ t, step busy = .next t := by
  refine ⟨⟨by decide, fun _ h => (nomatch h), by decide, by decide, by decide⟩, fun _ h => (nomatch h),
    ⟨by decide, fun st h => ?_, by decide, fun _ _ _ _ h => (nomatch h)⟩, ⟨_, rfl⟩⟩
  cases List.mem_singleton.mp h
  exact ⟨by decide, by decide, by decide, fun t o h1 h2 => by cases h1; cases h2; exact holding_ok⟩

/-- An OTHER-CHANGED entry that leaves mode and W. -/
theorem witness_RecoveryRecordsKeepTheirShape_changes :
    ({ Merge.powerOn with
        pending := [⟨0x00B200, .otherChanged inRecord⟩],
        streams := [{ key := 0x00B200, params := { mode := .passFirst, strip := false, window := 8, rogue := 0, silence := 0,
                                                   policer := none, pool := 0, cls := .keep },
                      recov := .fresh 0, counts := .zero }] } : Merge).ChangesFit := by
  intro e he r p st h1 h2 h3
  cases List.mem_singleton.mp he
  cases h1; cases h2; cases h3
  exact ⟨rfl, rfl⟩

theorem witness_HeldFramesLeaveInOrder :
    let o : Ordered := { nxt := 41, held := [heldAt 42 200, heldAt 44 201], timer := some 200 }
    let t := tracking 44 [.accepted, .vacant, .accepted, .vacant] (some o)
    t.ordered = some o ∧ (∃ pre post, o.held = pre ++ heldAt 42 200 :: post ∧ (heldAt 42 200).deadline ≤ 200 ∧
      ∀ h ∈ post, 200 < h.deadline) ∧ t.window[1]? = some .vacant :=
  ⟨rfl, ⟨[], [heldAt 44 201], rfl, by decide, by decide⟩, rfl⟩

/-- At the record of `busy` with W 2: 41 is delivered at N; 43 is held, which puts the bottom one above N; no deadline has come
at 199. With W 3 the same candidate moves the bottom onto N only. -/
theorem witness_HeldFramesLeaveInOrder_accept :
    let t := tracking 42 [.accepted, .vacant] (some holding)
    let t3 := tracking 42 [.accepted, .vacant, .accepted] (some holding)
    t.OrderOk holding 2 ∧ t.window.length = 2 ∧ t.judge 2 41 = .candidate .deliver ∧ t.judge 2 43 = .candidate .hold ∧
      (heldAt 43 300).seq = 43 ∧ 2 < ((43 : Seq) + 1 - holding.nxt).toNat ∧ t3.OrderOk holding 3 ∧
      t3.judge 3 43 = .candidate .hold ∧ ¬ 3 < ((43 : Seq) + 1 - holding.nxt).toNat ∧
      (∀ h ∈ holding.held, 199 < h.deadline) ∧ freshRecord.tracking = none :=
  ⟨holding_ok, rfl, by decide, by decide, rfl, by decide,
    ⟨by decide, by decide, by decide, by decide, by decide, by decide, by decide⟩, by decide, by decide, by decide, rfl⟩

/-! ## Witnesses: merge engine -/

/-- A copy of 0x00B200 at sequence 10, stored length 20, generation 0. -/
def arrival : DirArrival :=
  { key := 0x00B200, seq := 10, restart := false, cls := .c1, len := 20, gen := 0, buf := marked 1 0x00B200 10 0 [1, 2, 3, 4] }
def unkArrival : UnkArrival := { key := 0x00C000, lane := .l0, cls := .c1, len := 16, pool := 0, gen := 0, buf := [] }
def mgmtArrival : MgmtArrival := { lane := .l0, seq := 5, restart := false, cls := .c3, len := 25, gen := 0, buf := [] }

/-- The stream of 0x00B200, with the record `r`. -/
def stream (r : Recovery) : Stream :=
  { key := 0x00B200,
    params := { mode := .passFirst, strip := true, window := 8, rogue := 4, silence := 500, policer := none, pool := 0,
                cls := .keep },
    recov := r, counts := .zero }

/-- The merge engine with that stream, its record TRACKING as `wrapped` with a silence timer due, and a queue. -/
def merging (q : List MergeEntry) : Merge :=
  { Merge.powerOn with
    queue := q, streams := [stream { born := 0, rogue := 0, tracking := some { wrapped with silence := some 0 } }] }

/-- The part with a merge engine and messages on their way. -/
def withMerge (m : Merge) (ms : List Msg) : State := { sending ms with mrg := m }

theorem witness_MergeEngineTakesArrivals :
    (withMerge (merging [.directory arrival]) []).mergeTakes 0 = true ∧
      (withMerge (merging [.unknown unkArrival]) []).mergeTakes 0 = true ∧
      (withMerge (merging [.management mgmtArrival]) []).mergeTakes 0 = true ∧
      ((merging []).find 0x00B200).isSome = true := by decide

/-- An entry stamped one above the generation waits, and one of another kind is not taken before it. -/
theorem witness_MergeEngineTakesArrivals_waits :
    (withMerge (merging [.directory { arrival with gen := 1 }]) []).mergeTakes 1 = false ∧
      (MergeEntry.directory { arrival with gen := 1 }).gen = 1 ∧
      (MergeEntry.unknown unkArrival).take ≠ (MergeEntry.directory arrival).take := by decide

/-- Every premise holds of a handling numbered 0: a candidate to deliver, one to hold, an unknown arrival, and none. -/
theorem witness_MergeEngineTakesGrantAnswers :
    let ref : FrameRef := { id := 7, restart := 0 }
    let m (h : Option MergeHand) : Merge := { merging [] with hand := h }
    takeFirst (selGrantAns .merge) [.grantAns .merge 0 (.granted ref)] = some ((0, .granted ref), []) ∧
      (m (some (.directory arrival .deliver none))).hand = some (.directory arrival .deliver none) ∧
      (m (some (.directory arrival .hold none))).hand = some (.directory arrival .hold none) ∧
      (m (some (.unknown unkArrival none))).hand = some (.unknown unkArrival none) ∧ (m none).hand = none ∧
      (m none).handNo = 0 ∧ ((m none).find arrival.key).isSome = true ∧ (m none).holdInUse < 1024 := by decide

theorem witness_MergeEngineTakesPlacementAnswers :
    let ref : FrameRef := { id := 7, restart := 0 }
    let h : MergeHand := .directory arrival .deliver (some ref)
    takeFirst selDeliveryAns [.enqueueAns (.delivery 0) ref .placed] = some ((0, ref, .placed), []) ∧
      ({ merging [] with hand := some h } : Merge).hand = some h ∧ (merging []).handNo = 0 ∧
      ((merging []).find arrival.key).isSome = true ∧
      ({ merging [] with hand := some (.unknown unkArrival (some ref)) } : Merge).hand =
        some (.unknown unkArrival (some ref)) ∧
      takeFirst selPlacementAns [.placementAns 0 true] = some ((0, true), []) ∧
      ({ merging [] with hand := some (.management mgmtArrival .takeAny) } : Merge).hand =
        some (.management mgmtArrival .takeAny) ∧
      takeFirst (selReleaseAns 7) [.enqueueAns (.release 0x00B200 0) ref .full] = some ((0x00B200, 0, ref, .full), []) := by
  decide

/-- Late answers of handling 1, with none in hand. -/
theorem witness_MergeEngineTakesPlacementAnswers_late :
    let ref : FrameRef := { id := 7, restart := 0 }
    (merging []).hand = none ∧ 1 ≠ (merging []).handNo ∧
      takeFirst selDeliveryAns [.enqueueAns (.delivery 1) ref .placed] = some ((1, ref, .placed), []) ∧
      takeFirst selPlacementAns [.placementAns 1 true] = some ((1, true), []) := by decide

theorem witness_MergeEngineTimersExpire :
    let st := stream { born := 0, rogue := 0, tracking := some { wrapped with silence := some 0 } }
    (merging []).find 0x00B200 = some st ∧ (merging []).hand = none ∧ st.recov.silenceDue 0 = true ∧
      (∃ h, ({ merging [] with hand := some (.unknown unkArrival none) } : Merge).hand = some h) ∧
      ({ born := 0, rogue := 0,
         tracking := some (tracking 42 [.accepted, .vacant] (some holding)) } : Recovery).holdDue 200 = true ∧
      ({ born := 0, rogue := 0, tracking := some { wrapped with silence := some 2000 } } : Recovery).silenceDue 2000 = true :=
  ⟨rfl, rfl, by decide, ⟨_, rfl⟩, by decide, by decide⟩

/-- One millisecond before its time, and for a key without a stream, nothing expires. -/
theorem witness_MergeEngineTimersExpire_not_due :
    ({ born := 0, rogue := 0, tracking := some { wrapped with silence := some 2000 } } : Recovery).silenceDue 1999 = false ∧
      ({ born := 0, rogue := 0,
         tracking := some (tracking 42 [.accepted, .vacant] (some holding)) } : Recovery).holdDue 199 = false ∧
      (merging []).find 1 = none ∧ State.reset.mrg.mgmt.silenceDue 0 = false := by decide

theorem witness_MergeEngineReconciles :
    let cs : List ChangeEntry := [⟨0x00A137, .added outRecord⟩, ⟨0x00B200, .otherChanged inRecord⟩]
    takeFirst (selReconcile .merge) [.reconcile .merge 1 cs .l0] = some ((1, cs, .l0), []) ∧ (merging []).hand = none ∧
      ({ merging [] with pending := [⟨0x00B200, .removed⟩] } : Merge).pending = ⟨0x00B200, .removed⟩ :: [] ∧
      ((merging []).find 0x00B200).isSome = true ∧
      (ChangeCat.added inRecord = .added inRecord ∧
        inRecord.fields = .inbound { mode := .passFirst, strip := true, window := 8, rogue := 4, silence := 500 }) := by
  decide

/-- The same with an entry in hand. -/
theorem witness_MergeEngineReconciles_deferred :
    let m : Merge :=
      { merging [] with hand := some (.unknown unkArrival none), pending := [⟨0x00B200, .otherChanged inRecord⟩] }
    (∃ h, m.hand = some h) ∧ m.pending ≠ [] ∧
      takeFirst (selReconcile .merge) [.reconcile .merge 1 [] .l0] = some ((1, [], .l0), []) :=
  ⟨⟨_, rfl⟩, by decide, by decide⟩

theorem witness_MergeEngineReadsAndRestarts :
    takeFirst (selStateRead .merge) [.stateRead .merge] = some ((), []) ∧
      takeFirst (selCounterRead .merge) [.counterRead .merge (.key 0xFFFF00 .inbound) true] =
        some ((.key 0xFFFF00 .inbound, true), []) ∧
      takeFirst (selCounterRead .merge) [.counterRead .merge .device false] = some ((.device, false), []) ∧
      takeFirst (selRestart .merge .traffic) [.restart .merge .traffic] = some ((), []) ∧
      takeFirst (selRestart .merge .full) [.restart .merge .full] = some ((), []) := by decide

/-! ## Witnesses: admission unit -/

/-- A grant of 300 bytes from pool 0 for 0x00B200, under policer 5 or none. -/
def grantOf (p : Option (Fin 64)) (pool : Fin 8) : GrantReq :=
  { who := .merge, hand := 1, stream := some 0x00B200, len := 300, policer := p, pool := pool }

/-- At the limits of the two tests: credit one below the length and equal to it; in-use blocks one above what the quota
leaves room for, and just within it. -/
theorem witness_GrantsAreTestedAndMadeAsOneChange :
    let p (c : Nat) : Policer := { enabled := true, ceiling := 3000, refill := 25, credit := c }
    let a (used c : Nat) : Admission :=
      { Admission.powerOn with
        inUse := #v[used, 0, 0, 0, 0, 0, 0, 0], free := 2048 - used,
        policers := Admission.powerOn.policers.set 5 (p c) }
    takeFirst (selGrant .merge) [.grant (grantOf (some 5) 0)] = some (grantOf (some 5) 0, []) ∧
      (((a 0 299).policers[5]).enabled = true ∧ ((a 0 299).policers[5]).credit < (grantOf (some 5) 0).len) ∧
      ¬ ((a 0 300).policers[5]).credit < (grantOf (some 5) 0).len ∧
      (a 2031 300).quotas[(0 : Fin 8)] < (a 2031 300).inUse[(0 : Fin 8)] + (300 + 255) / 256 ∧
      ¬ ((a 2030 300).quotas[(0 : Fin 8)] < (a 2030 300).inUse[(0 : Fin 8)] + (300 + 255) / 256 ∨
        (a 2030 300).free < (300 + 255) / 256 + (16 - (a 2030 300).reserve)) ∧
      takeFirst (selReserveGrant .agent) [.reserveGrant .agent 0 40] = some ((0, 40), []) := by decide

theorem witness_RefillsAndReferences :
    let c : CopyReq := { place := 3, port := .t, ref := { id := 41, restart := 0 }, tag := .output }
    takeFirst (selCopyAdd 3) [.copyAdd c] = some (c, []) ∧ (busy.adm.recordOf c.ref).isSome = true ∧
      takeFirst (selRelease 41) [.release { id := 41, restart := 0 }] = some ({ id := 41, restart := 0 }, []) ∧
      (busy.adm.recordOf { id := 41, restart := 1 }).isSome = false ∧
      takeFirst selWatch [.watch { id := 42, restart := 0 }] = some ({ id := 42, restart := 0 }, []) := by decide

theorem witness_PolicerPoolAndQueueStaging :
    takeFirst (selShadowCreate .admission) [.shadowCreate .admission] = some ((), []) ∧
      takeFirst (selShadowDiscard .admission) [.shadowDiscard .admission] = some ((), []) ∧
      takeFirst selPolicerWrite [.policerWrite []] = some ([], []) ∧
      takeFirst selPoolWrite [.poolWrite [{ index := 1, quota := 40 }]] = some ([{ index := 1, quota := 40 }], []) ∧
      takeFirst (selEntryRead .request (.policer 5)) [.entryRead .request .active (.policer 5)] = some (.active, []) ∧
      takeFirst (selEntryRead .check (.pool 7)) [.entryRead .check .shadow (.pool 7)] = some (.shadow, []) ∧
      takeFirst (selStateRead .admission) [.stateRead .admission] = some ((), []) ∧
      takeFirst (selShadowCreate .egress) [.shadowCreate .egress] = some ((), []) ∧
      takeFirst (selShadowDiscard .egress) [.shadowDiscard .egress] = some ((), []) ∧
      takeFirst selQueueWrite [.queueWrite []] = some ([], []) ∧
      takeFirst (selLimitRead .check .t .c3) [.limitRead .check .shadow .t .c3] = some (.shadow, []) := by decide

theorem witness_SwapsTakeEffectAtOnce :
    takeFirst (selSwap .classifier) [.swap .classifier] = some ((), []) ∧
      takeFirst (selSwap .admission) [.swap .admission] = some ((), []) ∧ State.reset.adm.shadow = none ∧
      (∃ sh, ({ State.reset.adm with
                shadow := some { policers := .replicate 64 { enabled := true, ceiling := 64, refill := 1 },
                                 quotas := .replicate 8 254 } } : Admission).shadow = some sh) ∧
      takeFirst (selSwap .egress) [.swap .egress] = some ((), []) :=
  ⟨by decide, by decide, rfl, ⟨_, rfl⟩, by decide⟩

theorem witness_AdmissionCountersAndRestarts :
    takeFirst (selCounterRead .admission) [.counterRead .admission (.key 0xFFFE00 .outbound) true] =
        some ((.key 0xFFFE00 .outbound, true), []) ∧
      (0xFFFE00 : Key) = ownReplyKey State.reset.node ∧
      takeFirst (selCounterRead .admission) [.counterRead .admission (.key 0x00B200 .inbound) false] =
        some ((.key 0x00B200 .inbound, false), []) ∧
      takeFirst (selCountChange .merge 0x00B200) [.countCreate .merge 0x00B200] = some (true, []) ∧
      takeFirst (selCountChange .replicator 0x00A137) [.countDelete .replicator 0x00A137] = some (false, []) ∧
      takeFirst (selRestart .admission .traffic) [.restart .admission .traffic] = some ((), []) ∧
      takeFirst (selRestart .admission .full) [.restart .admission .full] = some ((), []) := by decide

/-! ## Witnesses: replicator -/

def departure : DirDeparture :=
  { key := 0x00A137, cls := .c2, len := 16, gen := 0, buf := plain 1 2 0x00A137 [1, 2, 3, 4] }
def unkDeparture : UnkDeparture := { key := 0x00C000, cls := .c0, len := 12, pool := 0, gen := 0, buf := [] }
def outParams : OutParams := { l0 := true, l1 := true, policer := some 5, pool := 2, cls := .fixed .c2 }

/-- The replicator with the stream 0x00A137 and both lanes UP. -/
def replicating (q : List RepEntry) : Replicator :=
  { Replicator.powerOn ⟨.up, .up⟩ with
    queue := q, streams := [{ key := 0x00A137, params := outParams, counter := .start, counts := .zero }] }

theorem witness_ReplicatorReconcilesAndFollowsLinks :
    let cs : List ChangeEntry := [⟨0x00A137, .otherChanged outRecord⟩]
    takeFirst (selReconcile .replicator) [.reconcile .replicator 1 cs .l1] = some ((1, cs, .l1), []) ∧
      ({ replicating [] with pending := cs } : Replicator).pending = ⟨0x00A137, .otherChanged outRecord⟩ :: [] ∧
      (replicating []).hand = none ∧ (replicating []).requestWaiting = false ∧
      outRecord.fields = .outbound { l0 := true, l1 := true } ∧
      takeFirst (selLinkReplicator .l1) [.linkReplicator .l1 .down] = some (.down, []) := by decide

theorem witness_ReplicatorTakesWork :
    (replicating [.directory departure]).takesEntry 0 = true ∧ (replicating []).pending = [] ∧
      (∃ e ∈ [ChangeEntry.mk 0x00A137 .removed], e.key = departure.key) ∧
      (replicating [.unknown unkDeparture]).takesEntry 0 = true ∧ (replicating []).hand = none ∧
      ({ replicating [] with handoff := some { reply := true, bytes := [] } } : Replicator).handoff =
        some { reply := true, bytes := [] } := by decide

/-- Each ground to wait: a stamp one above the generation, another key pending, work in hand, and no handoff. -/
theorem witness_ReplicatorTakesWork_waits :
    (replicating [.directory departure]).takesEntry 1 = false ∧
      (∀ e ∈ [ChangeEntry.mk 0x00A138 .removed], e.key ≠ departure.key) ∧ [ChangeEntry.mk 0x00A138 .removed] ≠ [] ∧
      ({ replicating [.unknown unkDeparture] with requestWaiting := true } : Replicator).takesEntry 0 = false ∧
      ({ replicating [.unknown unkDeparture] with handoff := some { reply := true, bytes := [] } } : Replicator).takesEntry 0 =
        false ∧
      (∀ d rest, (replicating [.unknown unkDeparture]).queue ≠ .directory d :: rest) ∧
      (∀ d rest, (replicating [.directory departure]).queue ≠ .unknown d :: rest) ∧ (replicating []).handoff = none :=
  ⟨by decide, by decide, by decide, by decide, by decide, fun _ _ h => (nomatch h), fun _ _ h => (nomatch h), rfl⟩

theorem witness_ReplicatorStampsGrantedFrames :
    let ref : FrameRef := { id := 7, restart := 0 }
    let w (j : RepJob) : RepHand := { job := j, ref := none, waiting := [], placed := 0 }
    ({ replicating [] with hand := some (w (.directory departure outParams)) } : Replicator).hand =
        some (w (.directory departure outParams)) ∧
      (w (.directory departure outParams)).ref = none ∧ ((replicating []).find departure.key).isSome = true ∧
      takeFirst (selGrantAns .replicator) [.grantAns .replicator 0 (.granted ref)] = some ((0, .granted ref), []) ∧
      takeFirst (selGrantAns .replicator) [.grantAns .replicator 0 .overRate] = some ((0, .overRate), []) ∧
      (replicating []).handNo = 0 ∧ (w (.unknown unkDeparture .l1)).job = .unknown unkDeparture .l1 ∧
      (w (.handoff { reply := true, bytes := [] })).job = .handoff { reply := true, bytes := [] } ∧
      takeFirst (selReserveAns .replicator) [.reserveAns .replicator 0 (some ref)] = some ((0, some ref), []) ∧
      takeFirst (selReserveAns .replicator) [.reserveAns .replicator 0 none] = some ((0, none), []) := by decide

/-- One stream for the key, and answers of handling 1 while none is in hand. -/
theorem witness_ReplicatorStampsGrantedFrames_late :
    ((replicating []).streams.map (·.key)).Nodup ∧ (replicating []).hand = none ∧ 1 ≠ (replicating []).handNo ∧
      takeFirst (selGrantAns .replicator) [.grantAns .replicator 1 .noBuffer] = some ((1, .noBuffer), []) ∧
      takeFirst (selReserveAns .replicator) [.reserveAns .replicator 1 none] = some ((1, none), []) := by decide

theorem witness_ReplicatorEndsWorkAndRestarts :
    let ref : FrameRef := { id := 7, restart := 0 }
    let w : RepHand := { job := .directory departure outParams, ref := some ref, waiting := [.l0, .l1], placed := 0 }
    takeFirst (selLaneAns .l1) [.enqueueAns (.lane 0 .l1) ref .full] = some ((0, ref, .full), []) ∧
      ({ replicating [] with hand := some w } : Replicator).hand = some w ∧ w.ref = some ref ∧
      (replicating []).handNo = 0 ∧ (replicating []).hand = none ∧
      takeFirst (selCounterRead .replicator) [.counterRead .replicator (.key 0xFFFE00 .outbound) true] =
        some ((.key 0xFFFE00 .outbound, true), []) ∧
      takeFirst (selCounterRead .replicator) [.counterRead .replicator .device true] = some ((.device, true), []) ∧
      takeFirst (selRestart .replicator .traffic) [.restart .replicator .traffic] = some ((), []) ∧
      takeFirst (selRestart .replicator .full) [.restart .replicator .full] = some ((), []) := by decide

/-- Work abandoned at a restart with both its lane answers due, and with the last one due. -/
def lateWork (waiting : List Lane) : LateWork := { hand := 0, ref := { id := 7, restart := 0 }, waiting := waiting }

/-- Answers of handling 0 with none in hand: one of two due, the last due, none due; and a restart with both due. -/
theorem witness_ReplicatorEndsWorkAndRestarts_late :
    (replicating []).hand = none ∧
      ([lateWork [.l0, .l1]].find? fun x => x.hand == 0) = some (lateWork [.l0, .l1]) ∧
      (lateWork [.l0, .l1]).waiting.erase .l0 = [.l1] ∧ (lateWork [.l1]).waiting.erase .l1 = [] ∧
      ((replicating []).late.find? fun x => x.hand == 0) = none ∧
      ({ replicating [] with
          hand := some
            { job := .directory departure outParams, ref := some { id := 7, restart := 0 }, waiting := [.l0, .l1],
              placed := 0 } } : Replicator).lateAfter = [lateWork [.l0, .l1]] := by decide

/-- The state with handling 0 abandoned, both its lane answers due. -/
def lateState : State := { State.reset with rep := { replicating [] with late := [lateWork [.l0, .l1]] } }

/-- Both late answers of an abandoned handling come, and its reference is released once, at the second, in either order
(R109, R110, R132). -/
theorem test_late_answers_release_once :
    let ref : FrameRef := { id := 7, restart := 0 }
    (lateState.repLateAnswer .l0 0 ref).net = [] ∧
      ((lateState.repLateAnswer .l0 0 ref).repLateAnswer .l1 0 ref).net = [.release ref] ∧
      ((lateState.repLateAnswer .l1 0 ref).repLateAnswer .l0 0 ref).net = [.release ref] ∧
      ((lateState.repLateAnswer .l0 0 ref).repLateAnswer .l1 0 ref).rep.late = [] := by decide

/-! ## Witnesses: egress unit and sent copies -/

/-- An enqueue for T: refused DOWN at reset; on an UP port of limit 40 it is placed; at limit 0 it is FULL. -/
theorem witness_EnqueueRequestsAreTestedInOrder :
    let e : Enqueue :=
      { port := .t, cls := .c2, ref := { id := 7, restart := 0 }, mark := none, strip := false, tag := .output }
    takeFirst (selEnqueue .agent) [.enqueue e] = some (e, []) ∧ (State.reset.egr.ports.get .t).link = .down ∧
      (busy.egr.ports.get .t).link = .up ∧ (busy.egr.ports.get .t).limits.get .c2 = 40 := by decide

/-- A copy place numbered 1 of the frame 41. -/
def placeOf (placed : Bool) : CopyPlace :=
  { place := 1, placed := placed, ref := { id := 41, restart := 0 }, mark := none, strip := false }

theorem witness_CopiesArePlacedAndChosenByClass :
    let c : CopyReq := { place := 1, port := .t, ref := { id := 41, restart := 0 }, tag := .output }
    choose (⟨[placeOf true], [], [placeOf false], []⟩ : PerClass (List CopyPlace)) =
        some (placeOf true, ⟨[], [], [placeOf false], []⟩) ∧
      takeFirst (selCopyAddAns 1) [.copyAddAns c true] = some ((c, true), []) ∧
      takeFirst (selCopyAddAns 1) [.copyAddAns c false] = some ((c, false), []) ∧
      (∃ k, ∃ y ∈ (busy.egr.ports.get .t).queues.get k, y.place = c.place) ∧
      (State.reset.egr.ports.get .t).queues = ⟨[], [], [], []⟩ ∧ (busy.egr.ports.get .t).link = .up ∧
      (State.reset.egr.ports.get .t).link = .down :=
  ⟨by decide, by decide, by decide, ⟨.c0, by decide⟩, rfl, rfl, rfl⟩

theorem witness_CopiesArePlacedAndChosenByClass_stored :
    (busy.adm.records.map (·.id)).Nodup ∧ (∃ r ∈ busy.adm.records, r.id = 41) ∧ busy.adm.restarts = 0 := by decide

theorem witness_PortsTransmitAndFollowLinks :
    (State.reset.egr.ports.get .t).tx = none ∧ (∃ t, (busy.egr.ports.get .t).tx = some t ∧ t.number = 0) ∧
      takeFirst (selLinkEgress .t) [.linkEgress .t .down] = some (.down, []) ∧
      takeFirst (selLinkEgress .t) [.linkEgress .t .up] = some (.up, []) ∧
      takeFirst (selCounterRead .egress) [.counterRead .egress (.port .t) true] = some ((.port .t, true), []) ∧
      takeFirst (selRestart .egress .traffic) [.restart .egress .traffic] = some ((), []) ∧
      takeFirst (selRestart .egress .full) [.restart .egress .full] = some ((), []) :=
  ⟨rfl, ⟨_, rfl, rfl⟩, by decide, by decide, by decide, by decide, by decide⟩

theorem witness_SentCopiesAreWellFormedFrames :
    let f := plain 1 2 0x00A137 [1, 2, 3, 4]
    let g := marked 1 0x00B200 10 0 [1, 2, 3, 4]
    let own := ownHeader 3 .c3 17 2 ++ [1, 2]
    trailed f = false ∧ f.length = frameLength f ∧ trailed g = true ∧ g.length = frameLength g ∧ trailed own = false ∧
      own.length + 4 = frameLength own := by decide

/-! ## Witnesses: management agent, requests -/

/-- The head request of `asked` or `askedIn`, well formed. -/
theorem head_asked (p : List Byte) (r : Req) (h1 : framePayload (entryOf p).buf = p) (h2 : parseRequest p = .ok r) :
    (asked p).headIs (entryOf p) [] p r ∧ ∀ sh, (askedIn sh p).headIs (entryOf p) [] p r := by
  have hf (sh : ShadowStatus) : (askedIn sh p).agt.retransmission p = .fresh ∧ (asked p).agt.retransmission p = .fresh := by
    simp only [Agent.retransmission, askedIn, asked, State.reset, State.powerOn, Agent.powerOn]
    split <;> exact ⟨rfl, rfl⟩
  exact ⟨⟨⟨rfl, h1, rfl⟩, (hf .absent).2, h2⟩, fun sh => ⟨⟨rfl, h1, rfl⟩, (hf sh).1, h2⟩⟩

theorem witness_RequestsAreTestedBeforeTheyAreServed :
    let p := request 0x01 0 0 []
    let cached : Agent := { State.reset.agt with cache := some { token := 0xA01, number := 1, payload := [9] } }
    let during : Agent :=
      { State.reset.agt with progress := some { token := 0xA01, number := 1, kind := .check, side := .t } }
    takeFirst selPlacement [.placement 0 (entryOf p)] = some ((0, entryOf p), []) ∧
      State.reset.agt.takesRequest 0 = true ∧ (parseRequest p).toOption = some .openSession ∧
      (6 ≤ p.length ∧ reqToken p ≠ 0) ∧ cached.retransmission p = .cached [9] ∧
      during.retransmission p = .ignored ∧ during.cache = none ∧
      ((asked p).agt.queue = entryOf p :: [] ∧ framePayload (entryOf p).buf = p) ∧
      (asked p).agt.retransmission p = .fresh ∧ reasonOf (request 0x01 1 0 []) = some (.tableMismatch, 0) ∧
      (asked (request 0x02 0 0 [])).agt.refusal 0xA01 .holder = some .noSession := by decide

/-- R13 at its boundaries: eight bytes; a length one too long; 17 pool entries; the second entry out of range; a key of zero; a
fill byte; a zero token; and a PUT of two entries that passes every condition. -/
theorem witness_RequestsAreTestedBeforeTheyAreServed_malformed :
    let pools (b : Byte) : List Byte := [7, 0, 7, 0xF0] ++ [b, 0, 0, 1]
    let put (b : Byte) : List Byte := request 0x10 3 2 (pools b ++ [0, 0, 0, 0])
    reasonOf ((request 0x01 0 0 []).take 8) = some (.short, 0) ∧ reasonOf (request 0x14 0 0 [0]) = some (.short, 0) ∧
      reasonOf (request 0x10 3 17 []) = some (.countRange, 0) ∧ reasonOf (request 0x10 6 1 []) = some (.tableMismatch, 0) ∧
      reasonOf (put 8) = some (.fieldRange, 1) ∧
      reasonOf (request 0x11 1 2 [0, 0, 0, 1, 0, 0, 0, 0, 0, 0, 0, 0]) = some (.zeroKey, 1) ∧
      reasonOf (request 0x12 1 1 [0, 0, 0, 1, 0, 0, 0, 0]) = some (.nonzeroFill, 0) ∧
      reasonOf (List.replicate 4 0 ++ [0, 1, 0x01, 0, 0]) = some (.zeroToken, 0) ∧
      (parseRequest (put 6)).toOption = some (.putPools [{ index := 7, quota := 2032 }, { index := 6, quota := 1 }]) ∧
      requestEntries .put (put 6) = [[7, 0, 7, 0xF0], [6, 0, 0, 1]] := by decide

/-- Each ground for a request command to change nothing: an empty queue, a head of another row, a request in hand, a reply on
the output, and a deferred event. -/
theorem witness_RequestsAreTestedBeforeTheyAreServed_waits :
    let a := (asked (request 0x23 0 0 [])).agt
    State.reset.agt.queue = [] ∧ requestRow (framePayload (entryOf (request 0x23 0 0 [])).buf) ≠ .openSession ∧
      ({ a with hand := some { side := .t, payload := [], stage := .replying } } : Agent).takesRequest 0 = false ∧
      ({ a with output := some { reply := true, restart := false, path := .toLanes } } : Agent).takesRequest 0 = false ∧
      ({ a with deferred := [.watchReturned] } : Agent).takesRequest 0 = false ∧ a.takesRequest 0 = true := by decide

/-- A request of another number is fresh beside a cached reply. -/
theorem witness_RequestsAreTestedBeforeTheyAreServed_fresh :
    ({ State.reset.agt with cache := some { token := 0xA01, number := 2, payload := [9] } } : Agent).retransmission
        (request 0x01 0 0 []) = .fresh := by decide

theorem witness_SessionAndRestartRequests :
    (asked (request 0x01 0 0 [])).headIs (entryOf (request 0x01 0 0 [])) [] (request 0x01 0 0 []) .openSession ∧
      (asked (request 0x01 0 0 [])).agt.mode = .noSession ∧
      (askedIn .absent (request 0x02 0 0 [])).headIs (entryOf (request 0x02 0 0 [])) [] (request 0x02 0 0 [])
        .closeSession ∧
      (askedIn .absent (request 0x02 0 0 [])).agt.inSession (request 0x02 0 0 []) ∧
      (askedIn (.dirty 1) (request 0x13 0 0 [])).headIs (entryOf (request 0x13 0 0 [])) [] (request 0x13 0 0 []) .abandon ∧
      (askedIn .absent (request 0x30 0 0 [1])).headIs (entryOf (request 0x30 0 0 [1])) [] (request 0x30 0 0 [1])
        (.restart .traffic) ∧
      (askedIn .absent (request 0x30 0 0 [2])).headIs (entryOf (request 0x30 0 0 [2])) [] (request 0x30 0 0 [2])
        (.restart .full) :=
  ⟨(head_asked _ _ rfl rfl).1, rfl, (head_asked _ _ rfl rfl).2 _, ⟨rfl, rfl⟩, (head_asked _ _ rfl rfl).2 _,
    (head_asked _ _ rfl rfl).2 _, (head_asked _ _ rfl rfl).2 _⟩

/-- A CLEAR with its record area of four zero bytes and a record check, a CHECK, and a COMMIT of a digest. -/
theorem witness_StagingCheckAndCommitRequests :
    let clear := request 0x12 1 1 ([0, 0, 0, 0] ++ crcBytes [0, 0, 0, 0])
    let check := request 0x14 0 0 []
    let commit := request 0x15 0 0 [1, 2, 3, 4]
    (askedIn .absent clear).headIs (entryOf clear) [] clear .clearBank ∧ (askedIn .absent clear).agt.inSession clear ∧
      (askedIn (.dirty 1) check).headIs (entryOf check) [] check .checkShadow ∧
      (askedIn (.checked 1) commit).headIs (entryOf commit) [] commit (.commit 0x01020304) :=
  ⟨(head_asked _ _ (by decide +kernel) rfl).2 _, ⟨rfl, rfl⟩, (head_asked _ _ rfl rfl).2 _, (head_asked _ _ rfl rfl).2 _⟩

theorem witness_ReadingRequestsAskTheOwners :
    let read := request 0x20 2 1 [0, 0, 0, 0, 5]
    let clearing := request 0x22 0 0 [1, 0, 0, 0xB2, 0, 1]
    (asked read).headIs (entryOf read) [] read (.readPolicer .active 5) ∧
      (askedIn .absent clearing).headIs (entryOf clearing) [] clearing (.statsKey 0x00B200 true) ∧
      (askedIn .absent clearing).agt.inSession clearing :=
  ⟨(head_asked _ _ rfl rfl).1, (head_asked _ _ rfl rfl).2 _, ⟨rfl, rfl⟩⟩

/-! ## Witnesses: management agent, answers, reports, output and timers -/

/-- The agent with a request in hand at a stage. -/
def handed (g : HandStage) : Agent :=
  { State.reset.agt with hand := some { side := .t, payload := request 0x23 0 0 [], stage := g } }

theorem witness_AnswersCarryTheRequestInHandOn :
    (∃ h, (handed (.creating .clearBank [.egress])).hand = some h ∧ h.stage = .creating .clearBank [.egress]) ∧
      takeFirst (selCreateAns .egress) [.shadowCreateAns .egress true] = some (true, []) ∧
      (∃ h, (handed (.writing true)).hand = some h ∧ h.stage = .writing true) ∧
      takeFirst (selWriteAns .classifier) [.shadowWriteAns .classifier (.notFound 2)] = some (.notFound 2, []) ∧
      (∃ h, (handed (.reading (.readPolicer .active 5) [.admission] [])).hand = some h ∧
        h.stage = .reading (.readPolicer .active 5) [.admission] []) ∧
      takeFirst (selReadAns .admission) [.readAns .admission .noShadow] = some (.noShadow, []) ∧
      (∃ h, (handed (.reading (.statsKey 1 false) [.merge] [])).hand = some h ∧
        h.stage = .reading (.statsKey 1 false) [.merge] []) ∧
      takeFirst (selReadAns .merge) [.readAns .merge .noSet] = some (.noSet, []) ∧
      (∃ h, (handed (.reading (.statsPort .t true) [.egress] [])).hand = some h ∧
        h.stage = .reading (.statsPort .t true) [.egress] []) ∧
      (∃ h, (handed (.reading .status [.merge] [])).hand = some h ∧ h.stage = .reading .status [.merge] []) ∧
      (∃ d, ({ State.reset.agt with discard := some { waiting := [.egress], why := .abandoning } } : Agent).discard = some d ∧
        d.waiting.erase .egress = [] ∧ d.why = .abandoning) ∧
      (∃ d, ({ State.reset.agt with discard := some { waiting := [.admission, .egress], why := .timeout } } : Agent).discard =
        some d ∧ d.waiting.erase .egress ≠ []) ∧
      takeFirst (selDiscardAns .egress) [.shadowDiscardAns .egress] = some ((), []) :=
  ⟨⟨_, rfl, rfl⟩, by decide, ⟨_, rfl, rfl⟩, by decide, ⟨_, rfl, rfl⟩, by decide, ⟨_, rfl, rfl⟩, by decide,
    ⟨_, rfl, rfl⟩, ⟨_, rfl, rfl⟩, ⟨_, rfl, by decide, rfl⟩, ⟨_, rfl, by decide⟩, by decide⟩

/-- Reads of a port, of the device and for STATUS, each answered. -/
theorem witness_AnswersCarryTheRequestInHandOn_results :
    let port : List (Block × ReadAnswer) :=
      [(.receiver .t, .counters [1, 2, 3, 4]), (.classifier, .counters [5]), (.egress, .counters [6, 7, 8])]
    let device : List (Block × ReadAnswer) :=
      [(.classifier, .counters [1, 2, 3, 4, 5, 6, 7, 8, 9]), (.merge, .counters [10]), (.replicator, .counters [20, 30])]
    let status : List (Block × ReadAnswer) :=
      [(.receiver .l0, .link .up), (.receiver .l1, .link .down), (.receiver .t, .link .up),
        (.admission, .memory 2046 0 #v[2, 0, 0, 0, 0, 0, 0, 0]), (.merge, .holds 1)]
    portCounters .t port = [1, 2, 3, 9, 6, 7, 8] ∧
      deviceCounters 4294967295 device = [1, 2, 3, 4, 5, 6, 7, 8, 30, 9, 4294967295] ∧
      (statusBytes 17 busy.agt status).length = 42 ∧ (statusBytes 17 busy.agt status).take 6 = [17, 1, 0, 1, 5, 0] := by
  decide

/-- A check with one read outstanding, in COMMITTING's COMMIT or CHECKING's CHECK; a record that fails, and one that passes. -/
theorem witness_ChecksReadAndJudgeTheShadow :
    let w : CheckWork :=
      { records := [outRecord], policers := [(5, true)], quotas := [(2, 100)], limits := [], unknownPool := none,
        waiting := [.pool 0] }
    let a : Agent :=
      { State.reset.agt with
        check := some w, progress := some { token := 0xA01, number := 1, kind := .check, side := .t } }
    a.hand = none ∧ takeFirst (selCheckAns (.pool 0)) a.deferred = none ∧
      takeFirst (selCheckAns (.pool 0)) [.checkAns (.pool 0) (.pool { index := 0, quota := 9 })] =
        some (.pool { index := 0, quota := 9 }, []) ∧
      a.check = some w ∧ w.waiting.erase (.pool 0) = [] ∧ w.waiting.erase .records ≠ [] ∧ w.fault 0 = none ∧
      ({ w with policers := [] } : CheckWork).fault 0 = some (.policerDisabled, 0) ∧
      ({ w with quotas := [] } : CheckWork).fault 0 = some (.poolEmpty, 0) ∧
      ({ w with records := [{ outRecord with key := 0xFFFF00 }] } : CheckWork).fault 0 = some (.reservedKey, 0) := by
  decide

/-- The last answer of a check, deferred while a request was in hand and taken when none is; without it nothing waits. -/
theorem witness_ChecksReadAndJudgeTheShadow_deferred :
    let m : Msg := .checkAns (.pool 0) (.pool { index := 0, quota := 9 })
    (∃ b, (lastCheckAnswer [] [m]).agentTakes (selCheckAns (.pool 0)) (.pool { index := 0, quota := 9 }) b) ∧
      (∃ b, (lastCheckAnswer [m] []).agentTakes (selCheckAns (.pool 0)) (.pool { index := 0, quota := 9 }) b) ∧
      (lastCheckAnswer [m] []).agentLacks (selCheckAns (.pool 1)) ∧ (∃ h, (handed .replying).hand = some h) :=
  ⟨⟨_, rfl, .inl ⟨[], by decide, rfl⟩⟩, ⟨_, rfl, .inr ⟨by decide, [], by decide, rfl⟩⟩, ⟨by decide, by decide⟩, ⟨_, rfl⟩⟩

/-- Each later group of a check at the first value beyond its limit, no earlier group failing. -/
theorem witness_ChecksReadAndJudgeTheShadow_groups :
    let w (q0 q1 : Nat) (l : List ((Port × Sys2Proof.Class) × Nat)) : CheckWork :=
      { CheckWork.start with quotas := [(0, q0), (1, q1)], limits := l, unknownPool := some 1 }
    let full (p : Port) : List ((Port × Sys2Proof.Class) × Nat) := [((p, .c0), 100), ((p, .c3), 60)]
    (w 2032 1 []).fault 0 = some (.poolSum, 0) ∧
      (w 2031 1 [((.l0, .c0), 161), ((.l1, .c0), 161)]).fault 0 = some (.queueSum, 0) ∧
      (w 2031 1 (full .l0 ++ [((.l1, .c0), 161), ((.t, .c0), 161)])).fault 0 = some (.queueSum, 1) ∧
      (w 2031 1 (full .l0 ++ full .l1 ++ [((.t, .c2), 161)])).fault 0 = some (.queueSum, 2) ∧
      (w 2032 0 (full .t)).fault 0 = some (.unknownPoolEmpty, 0) ∧ (w 2031 1 (full .t)).fault 0 = none := by
  decide

/-- A commit that lacks one report, and a restart at each of its phases. -/
theorem witness_CommitsAndRestartsFollowTheirReports :
    let w : CommitWork :=
      { lane := .l0, swapped := true, admission := true, egress := true, merge := false, replicator := true }
    let a : Agent :=
      { State.reset.agt with
        commit := some w, progress := some { token := 0xA01, number := 1, kind := .commit, side := .t } }
    a.hand = none ∧ a.deferred = [] ∧ a.commit = some w ∧
      takeFirst selLaneRead [.laneAns (.device (.preferredLane .l1))] = some (.device (.preferredLane .l1), []) ∧
      (∃ r, takeFirst selSwapReport [.swapReport (some r)] = some (some r, [])) ∧
      takeFirst (selSwapDone .egress) [.swapDone .egress true] = some (true, []) ∧
      takeFirst (selSwapDone .admission) [.swapDone .admission true] = some (true, []) ∧
      takeFirst (selReconcileDone .merge) [.reconcileDone .merge] = some ((), []) ∧
      takeFirst (selReconcileDone .replicator) [.reconcileDone .replicator] = some ((), []) ∧
      ({ a with restart := some { kind := .full, phase := .replying } } : Agent).restart =
        some { kind := .full, phase := .replying } ∧
      takeFirst selWatchReturned [.watchReturned] = some ((), []) ∧
      takeFirst (selRestartDone .egress) [.restartDone .egress] = some ((), []) ∧
      ({ a with restart := some { kind := .traffic, phase := .first [.egress] } } : Agent).restart =
        some { kind := .traffic, phase := .first [.egress] } ∧
      ({ a with restart := some { kind := .full, phase := .second [.receiver .t] } } : Agent).restart =
        some { kind := .full, phase := .second [.receiver .t] } :=
  ⟨rfl, rfl, rfl, by decide, ⟨{ gen := 1, params := State.reset.agt.params, changes := [] }, rfl⟩, by decide, by decide,
    by decide, by decide, rfl, by decide, by decide, rfl, rfl⟩

/-- Reports of which one is deferred and one on its way, with no request in hand; and a report while one is in hand. -/
theorem witness_CommitsAndRestartsFollowTheirReports_deferred :
    let s (d n : List Msg) : State := { sending n with agt := { State.reset.agt with deferred := d } }
    (∃ t, (s [.swapDone .egress true] [.swapDone .egress true]).agentTakes (selSwapDone .egress) true t ∧
        t.agt.deferred = [] ∧ t.net = [.swapDone .egress true]) ∧
      (∃ t, (s [.watchReturned] [.restartDone .merge]).agentTakes (selRestartDone .merge) () t ∧
        t.agt.deferred = [.watchReturned] ∧ t.net = []) ∧
      (s [.watchReturned] []).agentLacks (selReconcileDone .merge) ∧ (∃ h, (handed .replying).hand = some h) ∧
      ({ s [] [] with agt := handed .replying, net := [.restartDone .merge] } : State).defers (.restartDone .merge) [] =
        { s [] [] with agt := { handed .replying with deferred := [.restartDone .merge] } } :=
  ⟨⟨_, ⟨rfl, .inl ⟨[], by decide, rfl⟩⟩, rfl, rfl⟩, ⟨_, ⟨rfl, .inr ⟨by decide, [], by decide, rfl⟩⟩, rfl, rfl⟩,
    ⟨by decide, by decide⟩, ⟨_, rfl⟩, rfl⟩

/-- A done report that comes while a request is in hand waits, and is taken when none is (R157, R176). -/
theorem test_report_deferred :
    let w : RestartWork := { kind := .traffic, phase := .second [.merge, .admission] }
    let s : State := { sending [.restartDone .merge] with agt := { handed .replying with restart := some w } }
    ∃ t, exec (.restartDone .merge) s = .next t ∧ t.agt.deferred = [.restartDone .merge] ∧ t.net = [] ∧
      t.agt.restart = some w ∧
      ∃ u, exec (.restartDone .merge) { t with agt := { t.agt with hand := none } } = .next u ∧ u.agt.deferred = [] ∧
        u.agt.restart = some { kind := .traffic, phase := .second [.admission] } :=
  ⟨_, rfl, by decide, by decide, by decide, _, rfl, by decide, by decide⟩

theorem witness_RepliesAndNoticesShareOneOutput :
    let ref : FrameRef := { id := 7, restart := 0 }
    let o (p : OutPath) : OutFrame := { reply := true, restart := true, path := p }
    ({ State.reset.agt with output := some (o (.toT [] none)) } : Agent).output = some (o (.toT [] none)) ∧
      takeFirst (selReserveAns .agent) [.reserveAns .agent 0 none] = some ((0, none), []) ∧
      takeFirst (selReserveAns .agent) [.reserveAns .agent 0 (some ref)] = some ((0, some ref), []) ∧
      (o (.toT [] (some ref))).path = .toT [] (some ref) ∧
      takeFirst selOutputAns [.enqueueAns .output ref .full] = some ((ref, .full), []) ∧
      EnqResult.full ≠ .placed ∧ takeFirst selOutputAns [.enqueueAns .output ref .placed] = some ((ref, .placed), []) ∧
      (o .toLanes).path = .toLanes ∧
      takeFirst selHandoffAns [.handoffAns (.sent ref 0)] = some (.sent ref 0, []) := by decide

theorem witness_RepliesAndNoticesShareOneOutput_answer : ∃ h, (handed .replying).hand = some h := ⟨_, rfl⟩

/-- The frame 7 of the reserve, the agent's reference and the egress unit's copy of it counted; the copy's port went DOWN, so the
egress unit has released its reference and answered DOWN (R141). -/
def droppedReply : State :=
  { sending [.release { id := 7, restart := 0 }, .enqueueAns .output { id := 7, restart := 0 } .down] with
    adm :=
      { Admission.powerOn with
        free := 2047, reserve := 1, nextId := 8,
        records := [{ id := 7, source := .reserve, blocks := 1, count := 2, bytes := [], watch := false }] },
    agt := { refusedReply.agt with mode := .restarting, restart := some { kind := .traffic, phase := .replying } } }

/-- The restart event comes when the frame of the RESTART's own reply has been released, the egress unit's release included,
though its message had not been taken (R153, R175). -/
theorem test_restart_after_the_last_release :
    ∃ t, exec .agentEnqueueAnswer droppedReply = .next t ∧ t.adm.records = [] ∧ t.adm.free = 2048 ∧
      t.net = [.restart .classifier .traffic, .restart .egress .traffic] := ⟨_, rfl, by decide, by decide, by decide⟩

theorem witness_TimersAndNotices :
    let a : Agent := { State.reset.agt with mode := .session, session := some { token := 0xA01, timer := some 0 } }
    a.mode = .session ∧ a.session = some { token := 0xA01, timer := some 0 } ∧ 0 ≤ State.reset.clock.millis ∧
      takeFirst (selNotice .poolExhausted 1) [.notice .poolExhausted 1] = some ((), []) ∧
      (∀ n ∈ State.reset.agt.notices, n.kind ≠ .laneChange) ∧
      (∃ pre n post, busy.agt.notices = pre ++ n :: post ∧ (∀ x ∈ pre, x.kind ≠ .laneChange) ∧ n.kind = .laneChange) ∧
      ({ State.reset.agt with pacing := 0 } : Agent).pacing ≤ State.reset.clock.millis :=
  ⟨rfl, rfl, by decide, by decide, by decide, ⟨[], _, [], rfl, by decide, rfl⟩, by decide⟩

/-- A timer one millisecond before its time, a stopped one, a mode other than SESSION, and a pacing expiry before its time. -/
theorem witness_TimersAndNotices_not_due :
    let a (m : AgentMode) (t : Option Nat) : Agent :=
      { State.reset.agt with mode := m, session := some { token := 0xA01, timer := t } }
    (a .session (some 1)).expiryDue 0 = false ∧ (a .session none).expiryDue 0 = false ∧
      (a .checking (some 0)).expiryDue 0 = false ∧ (a .session (some 0)).expiryDue 0 = true ∧ (0 < 1) ∧
      State.reset.clock.millis < State.reset.agt.pacing := by decide

/-! ## Witnesses: encodings -/

theorem witness_TableEntriesRoundTrip :
    inRecord.wf = true ∧ outRecord.wf = true ∧
      ((encodeDir inRecord).length = 16 ∧ dirRangeOk (encodeDir inRecord) = true ∧ dirFillOk (encodeDir inRecord) = true ∧
        natAt (encodeDir inRecord) 0 3 ≠ 0) ∧
      (∃ e : PolicerEntry, 64 ≤ e.ceiling ∧ e.ceiling ≤ 262143 ∧ 1 ≤ e.refill ∧ e.refill ≤ 16383) ∧
      (∃ e : PoolEntry, e.quota ≤ 2032) ∧ (∃ e : QueueEntry, e.limit ≤ 160) ∧
      (∀ n, DeviceEntry.sessionTimeout 600 = .noticeInterval n → 10 ≤ n ∧ n ≤ 10000) ∧
      (∀ n, DeviceEntry.sessionTimeout 600 = .sessionTimeout n → 1 ≤ n ∧ n ≤ 600) :=
  ⟨by decide, by decide, by decide, ⟨{ index := 63, enabled := true, ceiling := 262143, refill := 16383 }, by decide⟩,
    ⟨{ index := 7, quota := 2032 }, by decide⟩, ⟨{ port := .t, cls := .c3, limit := 160 }, by decide⟩,
    fun _ h => (by cases h), fun _ h => (by cases h; decide)⟩

/-- An entry of each table as bytes, at the top of its ranges. -/
theorem witness_TableEntriesRoundTrip_bytes :
    let policer : List Byte := [63, 1, 0x03, 0xFF, 0xFF, 0x3F, 0xFF, 0]
    entryRangeOk 2 policer = true ∧ entryFillOk 2 policer = true ∧
      entryRangeOk 3 [7, 0, 7, 0xF0] = true ∧ entryFillOk 3 [7, 0, 7, 0xF0] = true ∧
      entryRangeOk 4 [2, 3, 0, 160] = true ∧ entryFillOk 4 [2, 3, 0, 160] = true ∧
      entryRangeOk 5 [5, 0, 0x27, 0x10] = true ∧ entryFillOk 5 [5, 0, 0x27, 0x10] = true := by decide

/-! ## One step each, from the manual's examples -/

/-- 02, "a run of classifications", frame 2: CROSSED on L1. -/
theorem test_crossed :
    ∃ t, exec (.classify .l1) (awaiting .l1 [outRecord, inRecord] (marked 1 0x00B200 7 0 [])) = .next t ∧
      t.cls.counts = { ClassifierCounts.zero with crossed := ⟨0, 1⟩ } ∧ t.net = [.notice .crossedLane 1] ∧
      t.mrg.queue = [] := ⟨_, rfl, by decide, by decide, by decide⟩

/-- 02, "a run of classifications", frame 6: unknown on L1 while the preferred lane L0 is UP. -/
theorem test_unknown_not_preferred :
    ∃ t, exec (.classify .l1) (awaiting .l1 [outRecord, inRecord] (marked 1 0x00C000 7 1 [])) = .next t ∧
      t.cls.counts = { ClassifierCounts.zero with unknownInbound := 1 } ∧ t.net = [.notice .unknownStream 0xC000] ∧
      t.mrg.queue = [] := ⟨_, rfl, by decide, by decide, by decide⟩

/-- 02, "a run of classifications", frame 8: a directory departure. -/
theorem test_departure_queued :
    ∃ t, exec (.classify .t) (awaiting .t [outRecord, inRecord] (plain 1 2 0x00A137 [])) = .next t ∧
      t.rep.queue = [.directory { key := 0x00A137, cls := .c2, len := 12, gen := 0, buf := plain 1 2 0x00A137 [] }] ∧
      t.rx.t.awaiting = none := ⟨_, rfl, by decide, by decide⟩

/-- 02, "a run of classifications", frame 10: DATA on the own request key is an unknown stream, discarded without a notice. -/
theorem test_own_key_of_other_kind :
    ∃ t, exec (.classify .t) (awaiting .t [outRecord] (plain 1 0 0xFFFF00 [])) = .next t ∧
      t.cls.counts = { ClassifierCounts.zero with unknownOutbound := 1 } ∧ t.net = [] ∧ t.agt.queue = [] :=
  ⟨_, rfl, by decide, by decide, by decide⟩

/-- 06, "an outbound stream through lane trouble", row 1: frame A is stamped 0 with the restart flag and asked onto both lanes. -/
theorem test_first_stamp :
    let s : State :=
      { sending [.grantAns .replicator 0 (.granted { id := 41, restart := 0 })] with
        adm := busy.adm,
        rep := { replicating [] with
                 hand := some { job := .directory departure outParams, ref := none, waiting := [], placed := 0 } } }
    ∃ t, exec .replicatorGrantAnswer s = .next t ∧ t.rep.streams.map (·.counter) = [{ nxt := 1, restart := false }] ∧
      t.rep.streams.map (·.counts.sent) = [1] ∧ t.net.length = 2 ∧
      (frameSeq (t.adm.stored { id := 41, restart := 0 }) = 0 ∧
        frameRestart (t.adm.stored { id := 41, restart := 0 }) = true) :=
  ⟨_, rfl, by decide, by decide, by decide, by decide⟩

/-- 07, "limits lowered under traffic", row 4: a class below its limit is FULL when all 160 slots are occupied. -/
theorem test_slots_full :
    let e : Enqueue :=
      { port := .t, cls := .c3, ref := { id := 41, restart := 0 }, mark := none, strip := false, tag := .output }
    let x : PortEgress :=
      { PortEgress.powerOn .up with
        limits := ⟨10, 50, 50, 50⟩, queues := ⟨List.replicate 160 (placeOf true), [], [], []⟩ }
    let s : State := { sending [.enqueue e] with egr := { State.reset.egr with ports := { State.reset.egr.ports with t := x } } }
    ∃ t, exec (.enqueueRequest .agent) s = .next t ∧ t.net = [.enqueueAns .output e.ref .full] :=
  ⟨_, rfl, by decide +kernel⟩

/-- 08, "two managers", row 1: OPEN from T opens the session for 30 s and puts a reply on the output. -/
theorem test_open :
    ∃ t, exec .openSession (asked (request 0x01 0 0 [])) = .next t ∧ t.agt.mode = .session ∧
      t.agt.session = some { token := 0xA01, timer := some 30000 } ∧ t.agt.queue = [] ∧ t.agt.output.isSome = true ∧
      (t.agt.cache.map fun c => slice c.payload 6 2) = some [0x01, 0] :=
  ⟨_, rfl, by decide, by decide, by decide, by decide, by decide⟩

end Sys2Proof.Tests
end

section
/-! The classifier: how CLASSIFY decides a frame (R29 to R39), and the change list of a commit (R42). -/

namespace Sys2Proof.Machine

/-! ## CLASSIFY, from the command to the port's rule -/

/-- A frame fails the header check when one of R3's five tests fails. -/
theorem headerOk_eq_false_iff (f : List Byte) :
    headerOk f = false ↔
      frameKind f < 1 ∨ 4 < frameKind f ∨ frameVersion f ≠ 1 ∨ frameKey f = 0 ∨ 1516 < payloadLen f := by
  simp only [headerOk, Config.payloadMax, Bool.and_eq_false_iff, decide_eq_false_iff_not, beq_eq_false_iff_ne,
    bne_eq_false_iff_eq, Nat.not_le, ne_eq, or_assoc]

/-- CLASSIFY clears the awaiting frame of its port and classifies it (R29, R136). -/
theorem exec_classify_of_awaiting {p : Port} {f : List Byte} {s : State} (h : (s.rx.get p).awaiting = some f) :
    exec (.classify p) s = .next ((s.withRx p { s.rx.get p with awaiting := none }).classify p f) := by
  have hexec : exec (.classify p) s = execClassify p s := rfl
  rw [hexec, execClassify, h]

@[simp] theorem State.classify_lanePort (s : State) (l : Lane) (f : List Byte) :
    s.classify (lanePort l) f = s.classifyLane l f := by
  cases l <;> rfl

@[simp] theorem State.classify_t (s : State) (f : List Byte) : s.classify .t f = s.classifyT f := rfl

/-! ## A frame from a lane, before its key is examined (R31, R32) -/

/-- A malformed header, or a trail whose lane mark names no lane, is BAD-HEADER (R3, R5, R31). -/
theorem State.classifyLane_of_badHeader (s : State) (l : Lane) {f : List Byte}
    (h : headerOk f = false ∨ (trailed f = true ∧ 1 < frameMark f)) :
    s.classifyLane l f = s.withClsCounts fun c => { c with badHeader := bump c.badHeader } := by
  have hcond : (!headerOk f || (trailed f && !decide (frameMark f < 2))) = true := by
    obtain hheader | ⟨htrail, hmark⟩ := h
    · simp [hheader]
    · simp [htrail, Nat.not_lt.mpr (Nat.succ_le_of_lt hmark)]
  rw [State.classifyLane, if_pos hcond]

/-- A trail with the lane mark of the other lane is CROSSED (R32). -/
theorem State.classifyLane_of_crossed (s : State) (l : Lane) {f : List Byte} (hheader : headerOk f = true)
    (htrail : trailed f = true) (hmark : frameMark f = laneCode (otherLane l)) :
    s.classifyLane l f =
      (s.withClsCounts fun c => { c with crossed := c.crossed.set l (bump (c.crossed.get l)) }).send
        [.notice .crossedLane (laneDetail l)] := by
  have hother : laneCode (otherLane l) < 2 ∧ laneCode (otherLane l) ≠ laneCode l := by cases l <;> decide
  simp [State.classifyLane, hheader, htrail, hmark, hother]

/-- Settles O20: the header check and the lane-mark check come before anything else, in this order. -/
theorem laneFrameHeaderAndLaneMark : Obligations.LaneFrameHeaderAndLaneMark := by
  intro l f s hawait
  rw [exec_classify_of_awaiting hawait, State.classify_lanePort]
  simp only [← headerOk_eq_false_iff, Bool.not_eq_false]
  constructor
  · intro hbad
    rw [State.classifyLane_of_badHeader _ l hbad]
    rfl
  · intro hheader htrail hmark
    have hother : frameMark f = laneCode (otherLane l) := by cases l <;> exact hmark
    rw [State.classifyLane_of_crossed _ l hheader htrail hother]
    cases l <;> rfl

/-! ## A frame from T (R37 to R39) -/

/-- A malformed header from T is BAD-HEADER (R37). -/
theorem State.classifyT_of_badHeader (s : State) {f : List Byte} (hheader : headerOk f = false) :
    s.classifyT f = s.withClsCounts fun c => { c with badHeader := bump c.badHeader } := by
  simp [State.classifyT, hheader]

/-- A trail on a frame from T is STRAY-TRAIL (R37). -/
theorem State.classifyT_of_trail (s : State) {f : List Byte} (hheader : headerOk f = true) (htrail : trailed f = true) :
    s.classifyT f = s.withClsCounts fun c => { c with strayTrail := bump c.strayTrail } := by
  simp [State.classifyT, hheader, htrail]

/-- A request to the node itself goes to the agent, which holds 4, or is REQUEST-OVERRUN (R38, R155). -/
theorem State.classifyT_of_ownRequest (s : State) {f : List Byte} (hheader : headerOk f = true)
    (htrail : trailed f = false) (hown : frameKind f = 2 ∧ frameKey f = ownRequestKey s.node) :
    s.classifyT f =
      if s.agt.queue.length < 4 then
        { s with agt := { s.agt with queue := s.agt.queue ++ [{ side := .t, len := payloadLen f, buf := f }] } }
      else s.withClsCounts fun c => { c with requestOverrun := bump c.requestOverrun } := by
  by_cases hroom : s.agt.queue.length < 4 <;>
    simp [State.classifyT, hheader, htrail, kindRequest, hown, Agent.place, Config.requestQueue, hroom]

/-- Any other frame from T is decided by the directory's direction for its key (R39). -/
theorem State.classifyT_of_key (s : State) {f : List Byte} (hheader : headerOk f = true)
    (htrail : trailed f = false) (hown : ¬ (frameKind f = 2 ∧ frameKey f = ownRequestKey s.node)) :
    s.classifyT f =
      match lookup s.cls.bank (frameKey f) with
      | some .outbound =>
        s.toReplicator (.directory
          { key := frameKey f, cls := frameClass f, len := frameLength f, gen := s.cls.gen, buf := f })
      | some .inbound => s.withClsCounts fun c => { c with wrongDirection := bump c.wrongDirection }
      | none =>
        let s2 := s.withClsCounts fun c => { c with unknownOutbound := bump c.unknownOutbound }
        match s.cls.params.unknownOutbound with
        | .discard => s2
        | .preferredLane =>
          s2.toReplicator (.unknown
            { key := frameKey f, cls := frameClass f, len := frameLength f, pool := s.cls.params.unknownPool,
              gen := s.cls.gen, buf := f }) := by
  rw [State.classifyT, if_neg (by simp [hheader]), if_neg (by simp [htrail])]
  exact if_neg hown

/-- Settles O22, by the four outcomes of R37 to R39 in the order in which they are tested. -/
theorem tributaryFrameClassified : Obligations.TributaryFrameClassified := by
  intro f s hawait
  let s1 := s.withRx .t { s.rx.t with awaiting := none }
  have hexec : exec (.classify .t) s = .next (s1.classifyT f) := exec_classify_of_awaiting (p := .t) hawait
  rw [hexec]
  simp only [← headerOk_eq_false_iff]
  refine congrArg Host.Outcome.next ?_
  split_ifs with hheader htrail hown hroom
  · exact s1.classifyT_of_badHeader hheader
  · exact s1.classifyT_of_trail (eq_true_of_ne_false hheader) htrail
  · exact (s1.classifyT_of_ownRequest (eq_true_of_ne_false hheader) (eq_false_of_ne_true htrail) hown).trans
      (if_pos hroom)
  · exact (s1.classifyT_of_ownRequest (eq_true_of_ne_false hheader) (eq_false_of_ne_true htrail) hown).trans
      (if_neg hroom)
  · exact s1.classifyT_of_key (eq_true_of_ne_false hheader) (eq_false_of_ne_true htrail) hown

/-! ## Banks in ascending order (R23) -/

/-- `ascending` compares neighbours; by transitivity that compares every two records. -/
theorem ascending_iff_pairwise (b : List DirRecord) :
    ascending b = true ↔ b.Pairwise fun x y => x.key < y.key := by
  induction b with
  | nil => simp [ascending]
  | cons a b ih =>
    cases b with
    | nil => simp [ascending]
    | cons c b =>
      rw [ascending, Bool.and_eq_true, decide_eq_true_iff, ih, List.pairwise_cons (a := a)]
      refine and_congr_left fun hb => ⟨fun hac x hx => ?_, fun h => h c List.mem_cons_self⟩
      obtain rfl | hx := List.mem_cons.mp hx
      · exact hac
      · exact BitVec.lt_trans hac ((List.pairwise_cons.mp hb).1 x hx)

/-- A bank has a record of a key when one of its records has that key. -/
theorem findRecord_eq_none_iff (b : List DirRecord) (k : Key) : findRecord b k = none ↔ k ∉ b.map DirRecord.key := by
  simp [findRecord]

/-- The keys after an insertion: those before it, and the record's (R26). -/
theorem mem_keys_insertRecord (r : DirRecord) (b : List DirRecord) (k : Key) :
    k ∈ (insertRecord r b).map DirRecord.key ↔ k = r.key ∨ k ∈ b.map DirRecord.key := by
  induction b with
  | nil => simp [insertRecord]
  | cons x xs ih =>
    rw [insertRecord]
    split_ifs with hlt heq
    · simp
    · simp [heq]
    · rw [List.map_cons, List.mem_cons, ih, List.map_cons, List.mem_cons, or_left_comm]

/-- An insertion keeps a bank ascending (R23, R26). -/
theorem ascending_insertRecord (r : DirRecord) {b : List DirRecord} (hb : ascending b = true) :
    ascending (insertRecord r b) = true := by
  rw [ascending_iff_pairwise] at hb ⊢
  induction b with
  | nil => simp [insertRecord]
  | cons x xs ih =>
    obtain ⟨hx, hxs⟩ := List.pairwise_cons.mp hb
    rw [insertRecord]
    split_ifs with hlt heq
    · refine List.pairwise_cons.mpr ⟨fun y hy => ?_, hb⟩
      obtain rfl | hy := List.mem_cons.mp hy
      · exact hlt
      · exact BitVec.lt_trans hlt (hx y hy)
    · exact List.pairwise_cons.mpr ⟨fun y hy => heq ▸ hx y hy, hxs⟩
    · refine List.pairwise_cons.mpr ⟨fun y hy => ?_, ih hxs⟩
      have hkey := (mem_keys_insertRecord r xs y.key).mp (List.mem_map_of_mem hy)
      obtain hr | hy := hkey
      · have hle : x.key ≤ r.key := BitVec.not_lt.mp hlt
        exact hr ▸ BitVec.lt_of_le_ne hle (Ne.symm heq)
      · obtain ⟨z, hz, hzy⟩ := List.mem_map.mp hy
        exact hzy ▸ hx z hz

/-- The keys after a record write: the bank's and the written records' (R26). -/
theorem mem_keys_writeRecords (b rs : List DirRecord) (k : Key) :
    k ∈ (writeRecords b rs).map DirRecord.key ↔ k ∈ b.map DirRecord.key ∨ k ∈ rs.map DirRecord.key := by
  induction rs generalizing b with
  | nil => simp [writeRecords]
  | cons r rs ih =>
    have hcons : writeRecords b (r :: rs) = writeRecords (insertRecord r b) rs := rfl
    rw [hcons, ih, mem_keys_insertRecord, List.map_cons, List.mem_cons, or_assoc, or_left_comm]

/-- A record write keeps a bank ascending (R23, R26). -/
theorem ascending_writeRecords {b : List DirRecord} (rs : List DirRecord) (hb : ascending b = true) :
    ascending (writeRecords b rs) = true :=
  List.foldlRecOn (motive := fun b => ascending b = true) rs _ hb fun _ h r _ => ascending_insertRecord r h

/-! ## The change list (R42) -/

/-- The keys that the change list compares come in ascending order, each once. -/
theorem bankKeys_pairwise_lt {old : List DirRecord} (new : List DirRecord) (hold : ascending old = true) :
    (bankKeys old new).Pairwise (· < ·) :=
  List.pairwise_map.mpr ((ascending_iff_pairwise _).mp (ascending_writeRecords new hold))

/-- A key that the change list does not compare has a record in neither bank. -/
theorem findRecord_eq_none_of_not_mem_bankKeys {old new : List DirRecord} {k : Key} (hk : k ∉ bankKeys old new) :
    findRecord old k = none ∧ findRecord new k = none := by
  rw [findRecord_eq_none_iff, findRecord_eq_none_iff, ← not_or]
  exact fun h => hk ((mem_keys_writeRecords old new k).mpr h)

/-- The entries of a key carry that key. -/
theorem key_eq_of_mem_changeOf {old new : List DirRecord} {k : Key} {e : ChangeEntry}
    (he : e ∈ changeOf old new k) : e.key = k := by
  unfold changeOf at he
  split at he
  · cases he
  · exact List.mem_singleton.mp he ▸ rfl
  · exact List.mem_singleton.mp he ▸ rfl
  · split_ifs at he
    · cases he
    · split at he
      · exact List.mem_singleton.mp he ▸ rfl
      · exact List.mem_singleton.mp he ▸ rfl
      · obtain rfl | rfl := List.mem_pair.mp he <;> rfl

/-- Of lists made one for each key, each carrying its own key, the entries of a key are that key's list. -/
theorem filter_key_flatMap {f : Key → List ChangeEntry} (hf : ∀ k, ∀ e ∈ f k, e.key = k) {ks : List Key}
    (hks : ks.Nodup) (k : Key) : ((ks.flatMap f).filter fun e => e.key == k) = if k ∈ ks then f k else [] := by
  induction ks with
  | nil => rfl
  | cons j js ih =>
    obtain ⟨hj, hjs⟩ := List.nodup_cons.mp hks
    rw [List.flatMap_cons, List.filter_append, ih hjs]
    by_cases hjk : j = k
    · subst hjk
      rw [List.filter_eq_self.mpr fun e he => beq_iff_eq.mpr (hf j e he)]
      simp [hj]
    · rw [List.filter_eq_nil_iff.mpr fun e he => by simpa [hf j e he] using hjk]
      simp [Ne.symm hjk]

/-- The change list comes in ascending key order (R42). -/
theorem changeList_pairwise_le {old : List DirRecord} (new : List DirRecord) (hold : ascending old = true) :
    (changeList old new).Pairwise fun x y => x.key ≤ y.key := by
  refine List.pairwise_flatMap.mpr ⟨fun k _ => ?_, (bankKeys_pairwise_lt new hold).imp fun hlt x hx y hy => ?_⟩
  · refine List.pairwise_of_forall_mem_list fun x hx y hy => ?_
    rw [key_eq_of_mem_changeOf hx, key_eq_of_mem_changeOf hy]
    exact BitVec.le_refl k
  · rw [key_eq_of_mem_changeOf hx, key_eq_of_mem_changeOf hy]
    exact BitVec.le_of_lt hlt

/-- The change list's entries of a key are the comparison of the key's two records (R42). -/
theorem filter_key_changeList {old : List DirRecord} (new : List DirRecord) (hold : ascending old = true) (k : Key) :
    ((changeList old new).filter fun e => e.key == k) = changeOf old new k := by
  have hnodup : (bankKeys old new).Nodup :=
    (bankKeys_pairwise_lt new hold).imp fun {a b} hlt (heq : a = b) => BitVec.lt_irrefl b (heq ▸ hlt)
  rw [changeList, filter_key_flatMap (fun _ _ => key_eq_of_mem_changeOf) hnodup]
  split_ifs with hk
  · rfl
  · obtain ⟨ho, hn⟩ := findRecord_eq_none_of_not_mem_bankKeys hk
    simp [changeOf, ho, hn]

/-- An inbound record that changes is RECOVERY-CHANGED when its mode or its window differs, else OTHER-CHANGED (R42). -/
theorem inboundChange_eq (a b : InFields) (r : DirRecord) :
    inboundChange a b r =
      if a.mode.isInOrder ≠ b.mode.isInOrder ∨ a.window ≠ b.window then .recoveryChanged r else .otherChanged r := by
  simp only [inboundChange, ne_eq, ← not_and_or, ite_not]

/-- Settles O25: the compared keys ascend and each key's entries stand together, so the list is read key by key. -/
theorem changeListComparesTheBanks : Obligations.ChangeListComparesTheBanks := by
  intro old new hold _
  refine ⟨changeList_pairwise_le new hold, fun k => ?_⟩
  rw [filter_key_changeList new hold k, changeOf]
  cases findRecord old k with
  | none => cases findRecord new k <;> rfl
  | some o =>
    cases findRecord new k with
    | none => rfl
    | some r =>
      refine if_congr Iff.rfl rfl ?_
      cases o.fields with
      | outbound a => cases r.fields <;> rfl
      | inbound a =>
        cases r.fields with
        | outbound b => rfl
        | inbound b =>
          simp only [inboundChange_eq]
          split_ifs <;> rfl

end Sys2Proof.Machine
end

section
/-! The swaps of a commit at the three owners of configuration (R41, R113, R149). -/

namespace Sys2Proof.Machine

/-! ## A swap, from the command to the owner's shadow -/

/-- An event with a message to take runs its meaning on the state without that message. -/
theorem State.onMsg_of_takeFirst {α : Type} {s : State} {sel : Msg → Option α} {a : α} {rest : List Msg}
    (k : α → State → State) (h : takeFirst sel s.net = some (a, rest)) :
    s.onMsg sel k = .next (k a { s with net := rest }) := by
  rw [State.onMsg, h]

theorem exec_classifierSwap (s : State) : exec .classifierSwap s = execClassifierSwap s := rfl

/-- CLASSIFIER_SWAP without a shadow changes nothing and reports none (R41). -/
theorem exec_classifierSwap_of_noShadow {s : State} {rest : List Msg}
    (htake : takeFirst (selSwap .classifier) s.net = some ((), rest)) (hshadow : s.cls.shadow = none) :
    exec .classifierSwap s = .next (s.took rest [.swapReport none]) := by
  rw [exec_classifierSwap, execClassifierSwap, State.onMsg_of_takeFirst _ htake]
  simp only [hshadow, State.took_eq_send]

/-- CLASSIFIER_SWAP makes its shadow active and reports generation, agent parameters and change list (R41). -/
theorem exec_classifierSwap_of_shadow {s : State} {rest : List Msg} {sh : ClassifierShadow}
    (htake : takeFirst (selSwap .classifier) s.net = some ((), rest)) (hshadow : s.cls.shadow = some sh) :
    exec .classifierSwap s = .next
      ((s.took rest
        [.swapReport (some
          { gen := s.cls.gen + 1, params := sh.params.agentPart, changes := changeList s.cls.bank sh.bank })]).withCls
        (s.cls.swapped sh)) := by
  rw [exec_classifierSwap, execClassifierSwap, State.onMsg_of_takeFirst _ htake]
  simp only [hshadow]
  rfl

theorem exec_admissionSwap (s : State) : exec .admissionSwap s = execAdmissionSwap s := rfl

/-- ADMISSION_SWAP without a shadow changes nothing (R113). -/
theorem exec_admissionSwap_of_noShadow {s : State} {rest : List Msg}
    (htake : takeFirst (selSwap .admission) s.net = some ((), rest)) (hshadow : s.adm.shadow = none) :
    exec .admissionSwap s = .next (s.took rest [.swapDone .admission false]) := by
  rw [exec_admissionSwap, execAdmissionSwap, State.onMsg_of_takeFirst _ htake]
  simp only [hshadow, State.took_eq_send]

/-- ADMISSION_SWAP makes its shadow active and answers done (R113). -/
theorem exec_admissionSwap_of_shadow {s : State} {rest : List Msg} {sh : AdmissionShadow}
    (htake : takeFirst (selSwap .admission) s.net = some ((), rest)) (hshadow : s.adm.shadow = some sh) :
    exec .admissionSwap s = .next ((s.took rest [.swapDone .admission true]).withAdm (s.adm.swapped sh)) := by
  rw [exec_admissionSwap, execAdmissionSwap, State.onMsg_of_takeFirst _ htake]
  simp only [hshadow]
  rfl

theorem exec_egressSwap (s : State) : exec .egressSwap s = execEgressSwap s := rfl

/-- EGRESS_SWAP without a shadow changes nothing (R149). -/
theorem exec_egressSwap_of_noShadow {s : State} {rest : List Msg}
    (htake : takeFirst (selSwap .egress) s.net = some ((), rest)) (hshadow : s.egr.shadow = none) :
    exec .egressSwap s = .next (s.took rest [.swapDone .egress false]) := by
  rw [exec_egressSwap, execEgressSwap, State.onMsg_of_takeFirst _ htake]
  simp only [hshadow, State.took_eq_send]

/-- EGRESS_SWAP makes its shadow active and answers done (R149). -/
theorem exec_egressSwap_of_shadow {s : State} {rest : List Msg} {v : PerPort (PerClass Nat)}
    (htake : takeFirst (selSwap .egress) s.net = some ((), rest)) (hshadow : s.egr.shadow = some v) :
    exec .egressSwap s = .next ((s.took rest [.swapDone .egress true]).withEgr (s.egr.swapped v)) := by
  rw [exec_egressSwap, execEgressSwap, State.onMsg_of_takeFirst _ htake]
  simp only [hshadow]
  rfl

/-! ## A policer's credit at the swap (R113) -/

/-- A policer newly enabled starts at its ceiling; any other keeps its credit up to the new ceiling (R113). -/
theorem Policer.swapTo_eq (p : Policer) (c : PolicerCfg) :
    p.swapTo c =
      { enabled := c.enabled, ceiling := c.ceiling, refill := c.refill,
        credit := if p.enabled = false ∧ c.enabled = true then c.ceiling else min p.credit c.ceiling } := by
  simp only [Policer.swapTo, Bool.and_eq_true, Bool.not_eq_true']

/-- Each policer is swapped with the shadow's entry of its own index (R113). -/
theorem Admission.swapped_policers_getElem (a : Admission) (sh : AdmissionShadow) (i : Fin 64) :
    (a.swapped sh).policers[i] = (a.policers[i]).swapTo sh.policers[i] :=
  Vector.getElem_zipWith i.isLt

/-- Settles O41: at each owner the two cases of its shadow, and at the admission unit policer by policer. -/
theorem swapsTakeEffectAtOnce : Obligations.SwapsTakeEffectAtOnce := by
  intro s rest
  refine ⟨fun htake => ?classifier, fun htake => ⟨?admissionWithout, fun sh hshadow => ?admission⟩, fun htake => ?egress⟩
  case classifier =>
    cases hshadow : s.cls.shadow with
    | none => exact exec_classifierSwap_of_noShadow htake hshadow
    | some sh => exact exec_classifierSwap_of_shadow htake hshadow
  case admissionWithout => exact exec_admissionSwap_of_noShadow htake
  case admission =>
    refine ⟨_, exec_admissionSwap_of_shadow htake hshadow, rfl, fun i => ?_⟩
    rw [State.withAdm_adm, Admission.swapped_policers_getElem, Policer.swapTo_eq]
  case egress =>
    cases hshadow : s.egr.shadow with
    | none => exact exec_egressSwap_of_noShadow htake hshadow
    | some v => exact exec_egressSwap_of_shadow htake hshadow

end Sys2Proof.Machine
end

section
/-! The egress ports: the end of a transmission, link changes, counter reads and restarts (R145 to R152). -/

namespace Sys2Proof.Machine

/-! ## The end of a transmission (R145) -/

theorem exec_transmitCompletion (p : Port) (n : Nat) (s : State) :
    exec (.transmitCompletion p n) s = execTransmitCompletion p n s := rfl

/-- A completion at an IDLE transmitter is ignored (R145). -/
theorem exec_transmitCompletion_of_idle {s : State} {p : Port} (n : Nat) (htx : (s.egr.ports.get p).tx = none) :
    exec (.transmitCompletion p n) s = .next s := by
  rw [exec_transmitCompletion, execTransmitCompletion]
  simp only [htx]

/-- A completion that names the transmission under way counts it, releases its copy and lets the transmitter choose (R145). -/
theorem exec_transmitCompletion_of_number {s : State} {p : Port} {t : Transmission}
    (htx : (s.egr.ports.get p).tx = some t) :
    exec (.transmitCompletion p t.number) s = .next
      (((s.withPort p
          { s.egr.ports.get p with tx := none, transmitted := bump (s.egr.ports.get p).transmitted }).send
        [.release t.copy.ref]).transmit p) := by
  rw [exec_transmitCompletion, execTransmitCompletion]
  simp only [htx, if_true]

/-- A completion that names another transmission is ignored (R145). -/
theorem exec_transmitCompletion_of_ne {s : State} {p : Port} {t : Transmission} {n : Nat}
    (htx : (s.egr.ports.get p).tx = some t) (hne : n ≠ t.number) : exec (.transmitCompletion p n) s = .next s := by
  rw [exec_transmitCompletion, execTransmitCompletion]
  simp only [htx, if_neg hne.symm]

/-! ## Link changes (R146, R147) -/

/-- The PLACED places of a port, in the order of its queues from class 3 to class 0. -/
theorem PortEgress.placed_eq_filter (x : PortEgress) :
    x.placed = (x.queues.c3 ++ x.queues.c2 ++ x.queues.c1 ++ x.queues.c0).filter fun c => c.placed := by
  simp only [PortEgress.placed, List.filter_append]

/-- A change to DOWN counts an aborted transmission when one is under way (R146). -/
theorem PortEgress.linkDown_aborted (x : PortEgress) :
    x.linkDown.aborted = if x.tx = none then x.aborted else bump x.aborted := by
  rw [PortEgress.linkDown]
  cases x.tx <;> rfl

/-- A port after its change to DOWN, its PLACED places written out (R146). -/
theorem PortEgress.linkDown_eq (x : PortEgress) :
    x.linkDown =
      { x with
        link := .down, tx := none, aborted := if x.tx = none then x.aborted else bump x.aborted,
        flushed := count x.flushed
          ((x.queues.c3 ++ x.queues.c2 ++ x.queues.c1 ++ x.queues.c0).filter fun c => c.placed).length,
        queues := x.queues.map fun q => q.filter fun c => !c.placed } := by
  rw [← x.linkDown_aborted, ← x.placed_eq_filter]
  rfl

/-- EGRESS_LINK_DOWN aborts, flushes and releases, when the port's earliest link change is to DOWN (R146). -/
theorem exec_egressLinkDown_of_down {s : State} {p : Port} {rest : List Msg}
    (htake : takeFirst (selLinkEgress p) s.net = some (.down, rest)) :
    exec (.egressLinkDown p) s = .next
      ((State.withPort { s with net := rest } p (s.egr.ports.get p).linkDown).send
        (s.egr.ports.get p).linkDownReleases) := by
  have hexec : exec (.egressLinkDown p) s = execEgressLinkDown p s := rfl
  rw [hexec, execEgressLinkDown, htake]

/-- EGRESS_LINK_UP lets the port transmit, when the port's earliest link change is to UP (R147). -/
theorem exec_egressLinkUp_of_up {s : State} {p : Port} {rest : List Msg}
    (htake : takeFirst (selLinkEgress p) s.net = some (.up, rest)) :
    exec (.egressLinkUp p) s = .next
      ((State.withPort { s with net := rest } p { s.egr.ports.get p with link := .up }).transmit p) := by
  have hexec : exec (.egressLinkUp p) s = execEgressLinkUp p s := rfl
  rw [hexec, execEgressLinkUp, htake]

/-! ## Counter reads and restarts (R150 to R152) -/

/-- A port of the egress unit replaced by itself. -/
theorem State.withPort_get_self (s : State) (p : Port) : s.withPort p (s.egr.ports.get p) = s := by
  rw [State.withPort, PerPort.set_get_self]

/-- EGRESS_COUNTER_READ answers a port's three counters and clears them when asked (R150). -/
theorem exec_egressCounterRead_of_port {s : State} {p : Port} {clear : Bool} {rest : List Msg}
    (htake : takeFirst (selCounterRead .egress) s.net = some ((.port p, clear), rest)) :
    let x := s.egr.ports.get p
    exec .egressCounterRead s = .next
      ((State.withPort { s with net := rest } p
          (if clear then { x with transmitted := 0, aborted := 0, flushed := 0 } else x)).send
        [.readAns .egress (.counters [x.transmitted, x.aborted, x.flushed])]) := by
  have hexec : exec .egressCounterRead s = execEgressCounterRead s := rfl
  rw [hexec, execEgressCounterRead, State.onMsg_of_takeFirst _ htake]
  cases clear with
  | true => rfl
  | false =>
    have hsame := State.withPort_get_self { s with net := rest } p
    simp only [Bool.false_eq_true, if_false, hsame]

/-- EGRESS_TRAFFIC_RESTART empties every port (R152). -/
theorem exec_egressTrafficRestart_of_restart {s : State} {rest : List Msg}
    (htake : takeFirst (selRestart .egress .traffic) s.net = some ((), rest)) :
    exec .egressTrafficRestart s = .next ((s.took rest [.restartDone .egress]).withEgr s.egr.trafficRestart) := by
  have hexec : exec .egressTrafficRestart s = execEgressTrafficRestart s := rfl
  rw [hexec, execEgressTrafficRestart, State.onMsg_of_takeFirst _ htake]
  rfl

/-- EGRESS_FULL_RESTART brings every port to its power-on values, but for the link state (R151). -/
theorem exec_egressFullRestart_of_restart {s : State} {rest : List Msg}
    (htake : takeFirst (selRestart .egress .full) s.net = some ((), rest)) :
    exec .egressFullRestart s = .next ((s.took rest [.restartDone .egress]).withEgr s.egr.fullRestart) := by
  have hexec : exec .egressFullRestart s = execEgressFullRestart s := rfl
  rw [hexec, execEgressFullRestart, State.onMsg_of_takeFirst _ htake]
  rfl

/-- Settles O49: one command at a time, a completion by the transmission under way and by the number it names. -/
theorem portsTransmitAndFollowLinks : Obligations.PortsTransmitAndFollowLinks := by
  intro s p
  refine ⟨fun htx n => exec_transmitCompletion_of_idle n htx, fun t n htx => ⟨?named, exec_transmitCompletion_of_ne htx⟩,
    fun rest htake => ?down, fun rest htake => ?up, fun clear rest htake => exec_egressCounterRead_of_port htake,
    fun rest htake => exec_egressTrafficRestart_of_restart htake, fun rest htake => exec_egressFullRestart_of_restart htake⟩
  case named =>
    rintro rfl
    exact exec_transmitCompletion_of_number htx
  case down =>
    rw [exec_egressLinkDown_of_down htake, PortEgress.linkDown_eq, PortEgress.linkDownReleases,
      PortEgress.placed_eq_filter]
    rfl
  case up =>
    rw [exec_egressLinkUp_of_up htake, ← State.send_nil (State.withPort _ _ _)]
    rfl

end Sys2Proof.Machine
end

section
set_option Elab.async false
/-! What each block's commands can change: the block itself, the messages on their way, and the manual's exceptions (00,
"Blocks"; R29, R61, R124, R167). -/

namespace Sys2Proof.Machine

/-! ## Messages sent -/

/-- Neither a swap request nor a carrier of directory records: the messages that no law of the state speaks of. -/
def Msg.plain : Msg → Bool
  | .swap _ => false
  | .recordWrite _ => false
  | .swapReport (some _) => false
  | .reconcile _ _ _ _ => false
  | _ => true

/-- Of the messages `n'`, those that were not on their way in `n` are plain. -/
def SendsPlain (n n' : List Msg) : Prop := ∀ x ∈ n', x ∈ n ∨ x.plain = true

theorem SendsPlain.refl (n : List Msg) : SendsPlain n n := fun _ h => .inl h

theorem SendsPlain.trans {n n' n'' : List Msg} (h : SendsPlain n n') (h' : SendsPlain n' n'') : SendsPlain n n'' :=
  fun x hx => (h' x hx).elim (h x) .inr

theorem SendsPlain.append {n ms : List Msg} (h : ∀ x ∈ ms, x.plain = true) : SendsPlain n (n ++ ms) :=
  fun x hx => (List.mem_append.mp hx).imp id (h x)

theorem SendsPlain.of_sublist {n n' : List Msg} (h : n'.Sublist n) : SendsPlain n n' := fun _ hx => .inl (h.subset hx)

/-- The message taken is no longer on its way; the others were before. -/
theorem SendsPlain.of_takeFirst {α : Type} {sel : Msg → Option α} {n rest : List Msg} {a : α}
    (h : takeFirst sel n = some (a, rest)) : SendsPlain n rest := .of_sublist (takeFirst_sublist h)

@[simp] theorem plain_releaseMsg (st : Stream) (h : Held) : (releaseMsg st h).plain = true := rfl

@[simp] theorem plain_answerTo (u : Purpose) (b : Block) (r : CheckRead) (a : ReadAnswer) :
    (answerTo u b r a).plain = true := by
  cases u <;> rfl

theorem plain_of_mem_alarmMsgs {alarm : Bool} {k : Key} {x : Msg} (h : x ∈ alarmMsgs alarm k) : x.plain = true := by
  cases alarm
  · cases h
  · obtain rfl := List.mem_singleton.mp h
    rfl

theorem plain_of_mem_lateGrant {r : GrantResult} {x : Msg} (h : x ∈ lateGrant r) : x.plain = true := by
  cases r <;> simp only [lateGrant, List.mem_singleton, List.not_mem_nil] at h
  subst h
  rfl

/-! ## Changes of one part of the state alone -/

/-- A part of the state, which is not the messages, and a preorder of what may become of it. -/
structure StatePart (β : Type) where
  get : State → β
  put : State → β → State
  /-- What may become of the part. -/
  rel : β → β → Prop
  refl : ∀ x, rel x x
  trans : ∀ {x y z}, rel x y → rel y z → rel x z
  put_get : ∀ s, put s (get s) = s
  get_put : ∀ s x, get (put s x) = x
  put_put : ∀ s x n y, put { put s x with net := n } y = put { s with net := n } y
  get_net : ∀ s n, get { s with net := n } = get s
  net_put : ∀ s x, (put s x).net = s.net

/-- `t` is `s` but for a part, which changes as `P` admits, and for messages taken and plain messages sent. -/
def State.Only {β : Type} (s : State) (P : StatePart β) (t : State) : Prop :=
  ∃ x n, t = P.put { s with net := n } x ∧ SendsPlain s.net n ∧ P.rel (P.get s) x

section
variable {β : Type} {P : StatePart β} {s t u : State}

theorem State.Only.net {n : List Msg} (h : SendsPlain s.net n) : s.Only P { s with net := n } := by
  refine ⟨P.get s, n, ?_, h, P.refl _⟩
  have := P.put_get { s with net := n }
  rwa [P.get_net, eq_comm] at this

theorem State.Only.refl (s : State) : s.Only P s := .net (.refl s.net)

theorem State.Only.trans (h : s.Only P t) (h' : t.Only P u) : s.Only P u := by
  obtain ⟨x, n, rfl, hn, hx⟩ := h
  obtain ⟨y, n', rfl, hn', hy⟩ := h'
  rw [P.net_put] at hn'
  rw [P.get_put] at hy
  exact ⟨y, n', P.put_put _ _ _ _, hn.trans hn', P.trans hx hy⟩

theorem State.Only.put {x : β} (h : P.rel (P.get s) x) : s.Only P (P.put s x) := ⟨x, s.net, rfl, .refl _, h⟩

/-- The part replaced, and plain messages sent. -/
theorem State.Only.put_send {x : β} {ms : List Msg} (h : P.rel (P.get s) x) (hms : ∀ m ∈ ms, m.plain = true) :
    s.Only P ((P.put s x).send ms) := State.Only.put h |>.trans (.net (.append hms))

theorem State.Only.sent {ms : List Msg} (hms : ∀ m ∈ ms, m.plain = true) : s.Only P (s.send ms) := .net (.append hms)

/-- Plain messages sent. -/
theorem State.Only.send {ms : List Msg} (h : s.Only P t) (hms : ∀ m ∈ ms, m.plain = true) : s.Only P (t.send ms) :=
  h.trans (.net (.append hms))

/-- What the part itself has become. -/
theorem State.Only.rel (h : s.Only P t) : P.rel (P.get s) (P.get t) := by
  obtain ⟨x, n, rfl, -, hx⟩ := h
  rwa [P.get_put]

/-- An event of a message whose meaning, on the state without the message, changes one part alone. -/
theorem State.Only.of_onMsg {α : Type} {sel : Msg → Option α} {k : α → State → State}
    (hk : ∀ a rest, takeFirst sel s.net = some (a, rest) → State.Only { s with net := rest } P (k a { s with net := rest }))
    (h : s.onMsg sel k = .next t) : s.Only P t := by
  obtain ⟨-, rfl⟩ | ⟨a, rest, htake, rfl⟩ := State.onMsg_cases h
  · exact .refl t
  · exact (State.Only.net (.of_takeFirst htake)).trans (hk a rest htake)

end

/-- The result of a command, where the command is an `if` or a `match` of results. -/
theorem next_eq_next {s t : State} : (Host.Outcome.next s : Result) = .next t ↔ t = s :=
  ⟨fun h => (Host.Outcome.next.inj h).symm, fun h => h ▸ rfl⟩

/-! ## What may become of the merge engine -/

/-- What one operation may make of the merge engine `m`, in a command that found it as `m0`; `R` are the directory records
that a reconciliation request on its way carries. A record in a stream changes with nothing in hand, but for an acceptance,
which ends the handling (R51, R61). -/
inductive Merge.Change (R : DirRecord → Prop) (m0 m : Merge) : Merge → Prop
  | took (e : MergeEntry) (rest : List MergeEntry) (hqueue : m.queue = e :: rest) (hhand : m.hand = none) :
      Merge.Change R m0 m { m with queue := rest, deferred := [], handNo := m.handNo + 1 }
  | deferred (d : List MergeDeferred) : Merge.Change R m0 m { m with deferred := d }
  | ended (d : List MergeDeferred) : Merge.Change R m0 m { m with hand := none, deferred := d }
  | withdrawn (n : Word32) : Merge.Change R m0 m { m with withdrawn := n }
  | counted (k : Key) (f : Stream → InCounts) : Merge.Change R m0 m (m.upd k fun st => { st with counts := f st })
  | mgmtCounted (c : InCounts) : Merge.Change R m0 m { m with mgmtCounts := c }
  | handed (h : MergeHand) (hh : ∀ a v ref, h ≠ .directory a v ref) : Merge.Change R m0 m { m with hand := some h }
  | granted (a : DirArrival) (v : Verdict) (ref : FrameRef) (hhand : m.hand = some (.directory a v none)) (hv : v ≠ .hold) :
      Merge.Change R m0 m { m with hand := some (.directory a v (some ref)) }
  | judged (a : DirArrival) (st : Stream) (hfind : m.find a.key = some st) (hhand : m.hand = none) (hand : Option MergeHand)
      (hcandidate : ∀ b v ref, hand = some (.directory b v ref) →
        b = a ∧ ref = none ∧
          (judge st.params.window st.params.rogue st.recov st.counts a.seq a.restart).judged = .candidate v) :
      Merge.Change R m0 m
        { m.upd a.key fun x =>
            { x with
              recov := (judge st.params.window st.params.rogue st.recov st.counts a.seq a.restart).recov,
              counts := (judge st.params.window st.params.rogue st.recov st.counts a.seq a.restart).counts } with
          hand := hand }
  | accepted (a : DirArrival) (v : Verdict) (ref : Option FrameRef) (st : Stream) (entry : Option Held) (now : Nat)
      (f : Stream → InCounts) (d : List MergeDeferred) (hhand : m.hand = some (.directory a v ref))
      (hfind : m.find a.key = some st)
      (hentry : ref.isSome = true ∧ entry = none ∨
        v = .hold ∧ m.holdInUse < Config.holdEntries ∧ ∃ h, entry = some h ∧ h.seq = a.seq) :
      Merge.Change R m0 m
        { m.upd a.key fun x =>
            { x with
              recov := (accept st.params.window st.params.silence st.params.mode.isInOrder now st.recov a.seq entry).recov,
              counts := f x } with
          hand := none, deferred := d }
  | removed (k : Key) (n : Word32) (hhand : m.hand = none) :
      Merge.Change R m0 m { m with withdrawn := n, streams := m.streams.filter fun x => !(x.key == k) }
  | added (e : ChangeEntry) (r : DirRecord) (p : InParams) (hhand : m.hand = none) (he : e ∈ m0.pending)
      (hr : e.cat = .added r) (hp : inParamsOf r = some p) :
      Merge.Change R m0 m
        { m with
          streams := (m.streams.filter fun x => !(x.key == e.key)) ++
            [{ key := e.key, params := p, recov := .fresh m.bornNo, counts := .zero }],
          bornNo := m.bornNo + 1 }
  | recoveryChanged (e : ChangeEntry) (r : DirRecord) (p : InParams) (hhand : m.hand = none) (he : e ∈ m0.pending)
      (hr : e.cat = .recoveryChanged r) (hp : inParamsOf r = some p) :
      Merge.Change R m0 m (m.upd e.key fun x => { x with params := p, recov := x.recov.reset })
  | otherChanged (e : ChangeEntry) (r : DirRecord) (p : InParams) (now : Nat) (d : List MergeDeferred)
      (hhand : m.hand = none) (hstreams : m.streams = m0.streams) (he : e ∈ m0.pending) (hr : e.cat = .otherChanged r)
      (hp : inParamsOf r = some p) :
      Merge.Change R m0 m
        { m.upd e.key fun x => { x with params := p, recov := x.recov.otherChanged p.rogue p.silence now } with deferred := d }
  | reconciled (k : Key) : Merge.Change R m0 m { m with pending := m.pending.filter fun x => !(x.key == k) }
  | silenced (k : Key) (f : Stream → InCounts) (hhand : m.hand = none) :
      Merge.Change R m0 m (m.upd k fun x => { x with recov := x.recov.reset, counts := f x })
  | expired (k : Key) (st : Stream) (t : Tracking) (o : Ordered) (now : Nat) (f : Stream → InCounts)
      (hhand : m.hand = none) (hfind : m.find k = some st) (ht : st.recov.tracking = some t) (ho : t.ordered = some o) :
      Merge.Change R m0 m
        (m.upd k fun x => { x with recov := { x.recov with tracking := some (expireHold now t o).1 }, counts := f x })
  | mgmtJudged (q : Seq) (f : Bool) (c c' : InCounts) :
      Merge.Change R m0 m
        { m with mgmt := (judge Config.managementWindow Config.managementRogue m.mgmt c q f).recov, mgmtCounts := c' }
  | mgmtAccepted (now : Nat) (q : Seq) (c : InCounts) :
      Merge.Change R m0 m
        { m with
          mgmt := (accept Config.managementWindow Config.managementSilence false now m.mgmt q none).recov, mgmtCounts := c }
  | mgmtReset (c : InCounts) : Merge.Change R m0 m { m with mgmt := m.mgmt.reset, mgmtCounts := c }
  | requested (g : Gen) (cs : List ChangeEntry) (hcs : ∀ e ∈ cs, ∀ r ∈ e.record, R r) :
      Merge.Change R m0 m { m with gen := g, pending := cs }
  | trafficRestart : Merge.Change R m0 m m.trafficRestart
  | poweredOn (hand born : Nat) : Merge.Change R m0 m { Merge.powerOn with handNo := hand, bornNo := born }

/-- What a command may make of the merge engine that it found as `m0`. -/
def Merge.Changes (R : DirRecord → Prop) (m0 : Merge) : Merge → Merge → Prop :=
  Relation.ReflTransGen (Merge.Change R m0)

/-! ## The operations of the merge engine -/

/-- The merge engine, as a part of the state. -/
@[reducible] def mergePart (R : DirRecord → Prop) (m0 : Merge) : StatePart Merge where
  get := State.mrg
  put := State.withMrg
  rel := Merge.Changes R m0
  refl _ := .refl
  trans := .trans
  put_get _ := rfl
  get_put _ _ := rfl
  put_put _ _ _ _ := rfl
  get_net _ _ := rfl
  net_put _ _ := rfl

/-- `t` is `s` but for the merge engine. -/
abbrev State.MergeOnly (R : DirRecord → Prop) (m0 : Merge) (s t : State) : Prop := s.Only (mergePart R m0) t

section
variable {R : DirRecord → Prop} {m0 : Merge}

theorem State.MergeOnly.change {s : State} {x : Merge} (h : Merge.Change R m0 s.mrg x) :
    State.MergeOnly R m0 s (s.withMrg x) := .put (.single h)

theorem State.MergeOnly.change_send {s : State} {x : Merge} {ms : List Msg} (h : Merge.Change R m0 s.mrg x)
    (hms : ∀ m ∈ ms, m.plain = true) : State.MergeOnly R m0 s ((s.withMrg x).send ms) := .put_send (.single h) hms

theorem State.mergeRemoved_only (s : State) (k : Key) (hhand : s.mrg.hand = none) :
    State.MergeOnly R m0 s (s.mergeRemoved k) := by
  unfold State.mergeRemoved
  split
  · exact .refl s
  · refine State.MergeOnly.change_send (.removed k _ hhand) fun m hm => ?_
    simp only [List.mem_append, List.mem_map, List.mem_singleton] at hm
    obtain ⟨h, -, rfl⟩ | rfl := hm <;> rfl

theorem State.mergeReconcile_only (s : State) (e : ChangeEntry) (hhand : s.mrg.hand = none)
    (hstreams : s.mrg.streams = m0.streams) (he : e ∈ m0.pending) : State.MergeOnly R m0 s (s.mergeReconcile e) := by
  unfold State.mergeReconcile
  split
  · exact s.mergeRemoved_only e.key hhand
  · rename_i r hr
    split
    · rename_i p hp
      exact State.MergeOnly.change_send (.added e r p hhand he hr hp) (by simp [Msg.plain])
    · exact .refl s
  · rename_i r hr
    split
    · rename_i p hp
      unfold State.mergeRecoveryChanged
      split
      · exact .refl s
      · exact State.MergeOnly.change_send (.recoveryChanged e r p hhand he hr hp) (by simp)
    · exact .refl s
  · rename_i r hr
    split
    · rename_i p hp
      exact State.MergeOnly.change (.otherChanged e r p s.clock.millis _ hhand hstreams he hr hp)
    · exact .refl s

theorem State.mergeStep_only (s : State) (e : ChangeEntry) (hhand : s.mrg.hand = none)
    (hstreams : s.mrg.streams = m0.streams) (he : e ∈ m0.pending) : State.MergeOnly R m0 s (s.mergeStep e) :=
  (s.mergeReconcile_only e hhand hstreams he).trans
    (State.MergeOnly.change_send (.reconciled e.key) (by split <;> simp [Msg.plain]))

/-- A key reconciled leaves the hand as it is. -/
theorem State.mergeStep_hand (s : State) (e : ChangeEntry) : (s.mergeStep e).mrg.hand = s.mrg.hand := by
  have h : (s.mergeReconcile e).mrg.hand = s.mrg.hand := by
    unfold State.mergeReconcile
    split
    · unfold State.mergeRemoved
      split <;> rfl
    · split <;> rfl
    · split
      · unfold State.mergeRecoveryChanged
        split <;> rfl
      · rfl
    · split <;> rfl
  exact h

theorem plain_of_mem_released {st : Stream} {hs : List Held} {alarm : Bool} {k : Key} {x : Msg}
    (h : x ∈ hs.map (releaseMsg st) ++ alarmMsgs alarm k) : x.plain = true := by
  obtain h | h := List.mem_append.mp h
  · obtain ⟨y, -, rfl⟩ := List.mem_map.mp h
    rfl
  · exact plain_of_mem_alarmMsgs h

theorem State.judgeDirectory_only (s : State) (st : Stream) (a : DirArrival) (hhand : s.mrg.hand = none)
    (hfind : s.mrg.find a.key = some st) : State.MergeOnly R m0 s (s.judgeDirectory st a) := by
  have hjudged (hand : Option MergeHand) := Merge.Change.judged (R := R) (m0 := m0) a st hfind hhand hand
  unfold State.judgeDirectory
  extract_lets j s1
  split
  · rename_i v hv
    have h : State.MergeOnly R m0 s (s.withMrg { s1.mrg with hand := some (.directory a v none) }) :=
      State.MergeOnly.change (hjudged _ (by rintro b v' ref ⟨⟩; exact ⟨rfl, rfl, hv⟩))
    exact (h.send (ms := j.released.map (releaseMsg st) ++ alarmMsgs j.alarm a.key)
      fun _ => plain_of_mem_released).send (by simp [Msg.plain])
  · have h : State.MergeOnly R m0 s (s.withMrg { s1.mrg with hand := none }) := State.MergeOnly.change (hjudged _ (by rintro _ _ _ ⟨⟩))
    have hnone : ({ s1.mrg with hand := none } : Merge) = s1.mrg := by
      have : s1.mrg.hand = none := hhand
      rw [← this]
    rw [hnone] at h
    exact h.send fun _ => plain_of_mem_released

theorem State.takeDirectory_only (s : State) (a : DirArrival) (hhand : s.mrg.hand = none)
    (hstreams : s.mrg.streams = m0.streams) (hpending : s.mrg.pending = m0.pending) :
    State.MergeOnly R m0 s (s.takeDirectory a) := by
  unfold State.takeDirectory
  extract_lets s1
  have h : State.MergeOnly R m0 s s1 ∧ s1.mrg.hand = none := by
    unfold s1
    split
    · rename_i e he
      have hmem : e ∈ m0.pending := hpending ▸ List.mem_of_find?_eq_some he
      exact ⟨s.mergeStep_only e hhand hstreams hmem, (s.mergeStep_hand e).trans hhand⟩
    · exact ⟨.refl s, hhand⟩
  obtain ⟨h, hhand1⟩ := h
  split
  · exact h.trans (State.MergeOnly.change (.withdrawn _))
  · rename_i st hfind
    exact h.trans (s1.judgeDirectory_only st a hhand1 hfind)

theorem State.takeManagement_only (s : State) (a : MgmtArrival) : State.MergeOnly R m0 s (s.takeManagement a) := by
  unfold State.takeManagement
  extract_lets j m s1
  have h : State.MergeOnly R m0 s s1 :=
    State.MergeOnly.change_send (.mgmtJudged a.seq a.restart s.mrg.mgmtCounts j.counts) fun _ => plain_of_mem_alarmMsgs
  split
  · exact h.trans (State.MergeOnly.change_send (.handed _ (by rintro _ _ _ ⟨⟩)) (by simp [Msg.plain]))
  · exact h

/-- An acceptance recorded for the entry in hand, and its handling over. -/
theorem State.recordAcceptance_mergeEnd_only (s : State) (st : Stream) (a : DirArrival) (v : Verdict)
    (ref : Option FrameRef) (entry : Option Held) (hhand : s.mrg.hand = some (.directory a v ref))
    (hfind : s.mrg.find a.key = some st)
    (hentry : ref.isSome = true ∧ entry = none ∨
      v = .hold ∧ s.mrg.holdInUse < Config.holdEntries ∧ ∃ h, entry = some h ∧ h.seq = a.seq) :
    State.MergeOnly R m0 s (s.recordAcceptance st a.seq entry).mergeEnd := by
  obtain ⟨-, hkey⟩ := Merge.find_some hfind
  have h (d : List MergeDeferred) (f : Stream → InCounts) :=
    Merge.Change.accepted (R := R) (m0 := m0) a v ref st entry s.clock.millis f d hhand hfind hentry
  rw [← hkey] at h
  have hplain (hs : List Held) : ∀ x ∈ hs.map (releaseMsg st), x.plain = true := by simp
  exact State.MergeOnly.change_send (h _ _) (hplain _)

theorem State.placeHold_mergeEnd_only (s : State) (st : Stream) (a : DirArrival) (ref : FrameRef)
    (r : Option FrameRef) (hhand : s.mrg.hand = some (.directory a .hold r)) (hfind : s.mrg.find a.key = some st) :
    State.MergeOnly R m0 s (s.placeHold st a ref).mergeEnd := by
  unfold State.placeHold
  split
  · rename_i hroom
    exact s.recordAcceptance_mergeEnd_only st a .hold r _ hhand hfind (.inr ⟨rfl, hroom, _, rfl, rfl⟩)
  · exact (State.MergeOnly.change_send (.counted st.key _) (by simp [Msg.plain])).trans (State.MergeOnly.change (.ended _))

/-- `t` is `s` but for the merge engine, once a frame has been written into the blocks that `ref` names. -/
def State.MergeWrites (R : DirRecord → Prop) (m0 : Merge) (s : State) (ref : FrameRef) (t : State) : Prop :=
  ∃ bytes, State.MergeOnly R m0 (s.writeFrame ref bytes) t

theorem State.grantedDirectory_writes (s : State) (a : DirArrival) (v : Verdict) (ref : FrameRef)
    (hhand : s.mrg.hand = some (.directory a v none)) : State.MergeWrites R m0 s ref (s.grantedDirectory a v ref) := by
  refine ⟨a.buf, ?_⟩
  unfold State.grantedDirectory
  extract_lets s1
  split
  · exact (State.Only.sent (ms := [.release ref]) (by simp [Msg.plain])).trans (State.MergeOnly.change (.ended _))
  · rename_i st hfind
    split
    · exact s1.placeHold_mergeEnd_only st a ref none hhand hfind
    · rename_i hv
      refine State.Only.send (State.MergeOnly.change (.granted a v ref hhand hv)) ?_
      simp [Msg.plain]

theorem State.grantedUnknown_writes (s : State) (a : UnkArrival) (ref : FrameRef) :
    State.MergeWrites R m0 s ref (s.grantedUnknown a ref) :=
  ⟨a.buf, State.MergeOnly.change_send (.handed _ (by rintro _ _ _ ⟨⟩)) (by simp [Msg.plain])⟩

/-- What a grant answer can do at the merge engine: the merge engine alone changes, or a granted frame is written too. -/
theorem State.mergeGrantAnswer_cases (s : State) (n : Nat) (r : GrantResult) :
    State.MergeOnly R m0 s (s.mergeGrantAnswer n r) ∨
      ∃ ref, r = .granted ref ∧ State.MergeWrites R m0 s ref (s.mergeGrantAnswer n r) := by
  have hlate : State.MergeOnly R m0 s (s.send (lateGrant r)) := .sent fun _ => plain_of_mem_lateGrant
  unfold State.mergeGrantAnswer
  split
  · rename_i a v hhand
    split
    · split
      · exact .inr ⟨_, rfl, s.grantedDirectory_writes a v _ hhand⟩
      · exact .inl (State.MergeOnly.change (.ended _))
    · exact .inl hlate
  · split
    · split
      · exact .inr ⟨_, rfl, s.grantedUnknown_writes _ _⟩
      · exact .inl (State.MergeOnly.change (.ended _))
    · exact .inl hlate
  · exact .inl hlate

theorem State.mergePlacementAnswer_only (s : State) (n : Nat) (ref : FrameRef) (r : EnqResult) :
    State.MergeOnly R m0 s (s.mergePlacementAnswer n ref r) := by
  unfold State.mergePlacementAnswer
  extract_lets s1
  have h : State.MergeOnly R m0 s s1 := .sent (by simp [Msg.plain])
  refine h.trans ?_
  split
  · rename_i a v own hhand
    split
    · split
      · rename_i st hfind
        exact s1.recordAcceptance_mergeEnd_only st a v (some own) none hhand hfind (.inl ⟨rfl, rfl⟩)
      · exact (State.MergeOnly.change (.counted a.key _)).trans (State.MergeOnly.change (.ended _))
    · exact .refl s1
  · split
    · exact State.MergeOnly.change (.ended _)
    · exact .refl s1
  · exact .refl s1

theorem State.managementAnswer_only (s : State) (n : Nat) (ok : Bool) :
    State.MergeOnly R m0 s (s.managementAnswer n ok) := by
  unfold State.managementAnswer
  split
  · split
    · split
      · exact (State.MergeOnly.change (.mgmtAccepted _ _ _)).trans (State.MergeOnly.change (.ended _))
      · exact (State.MergeOnly.change (.mgmtCounted _)).trans (State.MergeOnly.change (.ended _))
    · exact .refl s
  · exact .refl s

theorem State.releaseAnswer_only (s : State) (k : Key) (born : Nat) (ref : FrameRef) (r : EnqResult) :
    State.MergeOnly R m0 s (s.releaseAnswer k born ref r) := by
  have h : State.MergeOnly R m0 s (s.send [.release ref]) := .sent (by simp [Msg.plain])
  have hcount : (fun st : Stream => if st.recov.born = born then st.queueFull else st) =
      fun st => { st with counts := if st.recov.born = born then st.queueFull.counts else st.counts } := by
    funext st
    split <;> rfl
  unfold State.releaseAnswer
  split
  · exact h
  · rw [hcount]
    exact h.trans (State.MergeOnly.change (.counted k _))

theorem State.mergeDefer_only (s : State) (e : MergeDeferred) : State.MergeOnly R m0 s (s.mergeDefer e) := by
  unfold State.mergeDefer
  split
  · exact .refl s
  · exact State.MergeOnly.change (.deferred _)

/-- An event that waits past an entry in hand: nothing is in hand when it is taken (R51). -/
theorem State.mergeEvent_only (s : State) (e : MergeDeferred) {k : State → State}
    (hk : s.mrg.hand = none → State.MergeOnly R m0 (s.mergeTaken e) (k (s.mergeTaken e))) :
    State.MergeOnly R m0 s (s.mergeEvent e k) := by
  unfold State.mergeEvent
  split
  · exact s.mergeDefer_only e
  · rename_i hhand
    exact (State.MergeOnly.change (.deferred _)).trans (hk (by simpa using hhand))

theorem State.silenceReset_only (s : State) (st : Stream) (hhand : s.mrg.hand = none) :
    State.MergeOnly R m0 s (s.silenceReset st) :=
  State.MergeOnly.change_send (.silenced st.key _ hhand) fun _ => plain_of_mem_released

theorem State.silenceResetManagement_only (s : State) : State.MergeOnly R m0 s s.silenceResetManagement :=
  State.MergeOnly.change_send (.mgmtReset _) fun _ => plain_of_mem_alarmMsgs

theorem State.holdExpired_only (s : State) (st : Stream) (hhand : s.mrg.hand = none)
    (hfind : s.mrg.find st.key = some st) : State.MergeOnly R m0 s (s.holdExpired st) := by
  unfold State.holdExpired
  split
  · exact .refl s
  · rename_i t ht
    split
    · exact .refl s
    · rename_i o ho
      exact State.MergeOnly.change_send (.expired st.key st t o s.clock.tens _ hhand hfind ht ho) (by simp)

theorem plain_of_mem_discards {m : Merge} {x : Msg} (h : x ∈ m.discards) : x.plain = true := by
  simp only [Merge.discards, List.mem_flatMap, List.mem_map] at h
  obtain ⟨-, -, -, -, rfl⟩ := h
  rfl

theorem plain_of_mem_append_restartDone {ms : List Msg} {b : Block} (h : ∀ x ∈ ms, x.plain = true) :
    ∀ x ∈ ms ++ [.restartDone b], x.plain = true := by
  simpa [or_imp, forall_and, Msg.plain] using h

/-! ## The commands of the merge engine -/

/-- A taken entry leaves the queue, with nothing in hand (R50). -/
theorem State.mergeBegin_only {s : State} {e : MergeEntry} {rest : List MergeEntry} (hqueue : s.mrg.queue = e :: rest)
    (htakes : s.mergeTakes e.gen = true) : State.MergeOnly R m0 s (s.mergeBegin rest) ∧ s.mrg.hand = none := by
  have hhand : s.mrg.hand = none := by
    simp only [State.mergeTakes, Bool.and_eq_true, Option.isNone_iff_eq_none] at htakes
    obtain ⟨⟨hhand, -⟩, -⟩ := htakes
    exact hhand
  exact ⟨State.MergeOnly.change (.took e rest hqueue hhand), hhand⟩

end

section
variable {R : DirRecord → Prop} {s t : State}

theorem execTakeDirectoryArrival_only (h : execTakeDirectoryArrival s = .next t) : State.MergeOnly R s.mrg s t := by
  unfold execTakeDirectoryArrival at h
  split at h
  · rename_i a rest hqueue
    split at h <;> rw [next_eq_next] at h <;> subst h
    · rename_i htakes
      obtain ⟨hbegin, hhand⟩ := State.mergeBegin_only hqueue htakes
      exact hbegin.trans (State.takeDirectory_only _ a hhand rfl rfl)
    · exact .refl _
  · rw [next_eq_next] at h
    exact h ▸ .refl _

theorem execTakeUnknownArrival_only (h : execTakeUnknownArrival s = .next t) : State.MergeOnly R s.mrg s t := by
  unfold execTakeUnknownArrival at h
  split at h
  · rename_i a rest hqueue
    split at h <;> rw [next_eq_next] at h <;> subst h
    · rename_i htakes
      exact (State.mergeBegin_only hqueue htakes).1.trans
        (State.MergeOnly.change_send (.handed _ (by rintro _ _ _ ⟨⟩)) (by simp [Msg.plain]))
    · exact .refl _
  · rw [next_eq_next] at h
    exact h ▸ .refl _

theorem execTakeManagementArrival_only (h : execTakeManagementArrival s = .next t) : State.MergeOnly R s.mrg s t := by
  unfold execTakeManagementArrival at h
  split at h
  · rename_i a rest hqueue
    split at h <;> rw [next_eq_next] at h <;> subst h
    · rename_i htakes
      exact (State.mergeBegin_only hqueue htakes).1.trans (State.takeManagement_only _ a)
    · exact .refl _
  · rw [next_eq_next] at h
    exact h ▸ .refl _

theorem execSilenceExpiry_only {r : RecordSel} (h : execSilenceExpiry r s = .next t) : State.MergeOnly R s.mrg s t := by
  unfold execSilenceExpiry at h
  split at h
  · split at h <;> rw [next_eq_next] at h <;> subst h
    · exact s.mergeEvent_only _ fun _ => State.silenceResetManagement_only _
    · exact .refl _
  · split at h
    · rw [next_eq_next] at h
      exact h ▸ .refl _
    · split at h <;> rw [next_eq_next] at h <;> subst h
      · exact s.mergeEvent_only _ fun hhand => State.silenceReset_only _ _ hhand
      · exact .refl _

theorem execHoldTimerExpiry_only {k : Key} (h : execHoldTimerExpiry k s = .next t) : State.MergeOnly R s.mrg s t := by
  unfold execHoldTimerExpiry at h
  split at h
  · rw [next_eq_next] at h
    exact h ▸ .refl _
  · rename_i st hfind
    split at h <;> rw [next_eq_next] at h <;> subst h
    · obtain ⟨-, rfl⟩ := Merge.find_some hfind
      exact s.mergeEvent_only _ fun hhand => State.holdExpired_only _ st hhand hfind
    · exact .refl _

/-- The directory records on their way in messages. -/
def State.RecordSent (s : State) (r : DirRecord) : Prop := ∃ m ∈ s.net, r ∈ m.records

/-- A message taken was on its way. -/
theorem mem_of_takeFirst {α : Type} {sel : Msg → Option α} {ms rest : List Msg} {a : α}
    (h : takeFirst sel ms = some (a, rest)) : ∃ m ∈ ms, sel m = some a := by
  obtain ⟨pre, m, post, hms, -, hm, -⟩ := takeFirst_split h
  exact ⟨m, by simp [hms], hm⟩

/-- A reconciliation request's entries are those of a message on its way. -/
theorem recordSent_of_selReconcile {s : State} {b : Block} {q : Gen × List ChangeEntry × Lane} {rest : List Msg}
    (htake : takeFirst (selReconcile b) s.net = some (q, rest)) : ∀ e ∈ q.2.1, ∀ r ∈ e.record, s.RecordSent r := by
  intro e he r hr
  obtain ⟨m, hmem, hm⟩ := mem_of_takeFirst htake
  refine ⟨m, hmem, ?_⟩
  cases m with
  | reconcile b' g cs l =>
    simp only [selReconcile, Option.ite_none_right_eq_some, Option.some.injEq] at hm
    obtain ⟨-, rfl⟩ := hm
    exact List.mem_flatMap.mpr ⟨e, he, hr⟩
  | _ => cases hm

theorem execMergeReconciliationRequest_only (h : execMergeReconciliationRequest s = .next t) :
    State.MergeOnly s.RecordSent s.mrg s t := by
  unfold execMergeReconciliationRequest at h
  split at h
  · rw [next_eq_next] at h
    exact h ▸ .refl _
  · rename_i q rest htake
    split at h <;> rw [next_eq_next] at h <;> subst h
    · exact s.mergeDefer_only .request
    · have hrecords : ∀ e ∈ q.2.1.filter s.mrg.concerns, ∀ r ∈ e.record, s.RecordSent r :=
        fun e he => recordSent_of_selReconcile htake e (List.mem_filter.mp he).1
      exact (State.Only.net (.of_takeFirst htake)).trans ((State.MergeOnly.change (.deferred _)).trans
        (State.MergeOnly.change_send (.requested _ _ hrecords) (by split <;> simp [Msg.plain])))

theorem execMergeReconcileKey_only (h : execMergeReconcileKey s = .next t) : State.MergeOnly R s.mrg s t := by
  unfold execMergeReconcileKey at h
  split at h <;> rw [next_eq_next] at h <;> subst h
  · exact .refl _
  · rename_i e rest hpending
    exact s.mergeEvent_only _ fun hhand => State.mergeStep_only _ e hhand rfl (by simp [hpending])

theorem execMergeCounterRead_only (h : execMergeCounterRead s = .next t) : State.MergeOnly R s.mrg s t := by
  have hclear (u : State) (clear : Bool) (x : Merge) (a : ReadAnswer) (hx : Merge.Change R s.mrg u.mrg x) :
      State.MergeOnly R s.mrg u ((if clear then u.withMrg x else u).send [.readAns .merge a]) := by
    cases clear
    · exact .sent (by simp [Msg.plain])
    · exact State.MergeOnly.change_send hx (by simp [Msg.plain])
  refine .of_onMsg (fun q rest _ => ?_) h
  dsimp only
  split
  · split
    · exact hclear _ _ _ _ (.mgmtCounted _)
    · split
      · exact .sent (by simp [Msg.plain])
      · exact hclear _ _ _ _ (.counted _ _)
  · exact hclear _ _ _ _ (.withdrawn _)

/-- The merge engine's commands change the merge engine alone; a grant answer may write the frame granted. -/
theorem exec_merge_cases {c : Instr} (hc : c.home = some .merge) (h : exec c s = .next t) :
    State.MergeOnly s.RecordSent s.mrg s t ∨
      ∃ ref rest, s.granted c = some ref ∧ SendsPlain s.net rest ∧
        State.MergeWrites s.RecordSent s.mrg { s with net := rest } ref t := by
  have hdiscards {u : State} : ∀ x ∈ u.mrg.discards ++ [.restartDone .merge], x.plain = true :=
    plain_of_mem_append_restartDone fun _ hx => plain_of_mem_discards hx
  cases c with
  | takeDirectoryArrival => exact .inl (execTakeDirectoryArrival_only h)
  | takeUnknownArrival => exact .inl (execTakeUnknownArrival_only h)
  | takeManagementArrival => exact .inl (execTakeManagementArrival_only h)
  | mergeGrantAnswer =>
    have h' : s.onMsg (selGrantAns .merge) (fun q u => u.mergeGrantAnswer q.1 q.2) = .next t := h
    obtain ⟨-, rfl⟩ | ⟨⟨n, r⟩, rest, htake, rfl⟩ := State.onMsg_cases h'
    · exact .inl (.refl t)
    · obtain honly | ⟨ref, rfl, hw⟩ := State.mergeGrantAnswer_cases { s with net := rest } n r
      · exact .inl ((State.Only.net (.of_takeFirst htake)).trans honly)
      · exact .inr ⟨ref, rest, by simp only [State.granted, htake], .of_takeFirst htake, hw⟩
  | mergePlacementAnswer =>
    have h : execMergePlacementAnswer s = .next t := h
    exact .inl (.of_onMsg (fun _ _ _ => State.mergePlacementAnswer_only _ _ _ _) h)
  | managementPlacementAnswer =>
    have h : execManagementPlacementAnswer s = .next t := h
    exact .inl (.of_onMsg (fun _ _ _ => State.managementAnswer_only _ _ _) h)
  | releaseEnqueueAnswer frame =>
    have h : execReleaseEnqueueAnswer frame s = .next t := h
    exact .inl (.of_onMsg (fun _ _ _ => State.releaseAnswer_only _ _ _ _ _) h)
  | silenceExpiry r => exact .inl (execSilenceExpiry_only h)
  | holdTimerExpiry k => exact .inl (execHoldTimerExpiry_only h)
  | mergeReconciliationRequest => exact .inl (execMergeReconciliationRequest_only h)
  | mergeReconcileKey => exact .inl (execMergeReconcileKey_only h)
  | holdStateRead =>
    have h : execHoldStateRead s = .next t := h
    exact .inl (.of_onMsg (fun _ _ _ => .sent (by simp [Msg.plain])) h)
  | mergeCounterRead => exact .inl (execMergeCounterRead_only h)
  | mergeTrafficRestart =>
    have h : execMergeTrafficRestart s = .next t := h
    exact .inl (.of_onMsg (fun _ _ _ => State.MergeOnly.change_send .trafficRestart hdiscards) h)
  | mergeFullRestart =>
    have h : execMergeFullRestart s = .next t := h
    exact .inl (.of_onMsg (fun _ _ _ => State.MergeOnly.change_send (.poweredOn _ _) hdiscards) h)
  | _ => cases hc

end

end Sys2Proof.Machine
end

section
set_option Elab.async false
/-! The laws of the admission unit through its operations: credits within their ceilings, and the accounts of frame memory
(R97, R101 to R103, R107, R109). -/

namespace Sys2Proof.Machine

/-! ## Sums over tables and records -/

/-- A list's sum once one entry has been replaced. -/
theorem sum_set_add (l : List Nat) (i x : Nat) (hi : i < l.length) : (l.set i x).sum + l[i] = l.sum + x := by
  induction l generalizing i with
  | nil => simp at hi
  | cons y ys ih =>
    cases i with
    | zero =>
      simp only [List.set_cons_zero, List.sum_cons, List.getElem_cons_zero]
      omega
    | succ j =>
      have h := ih j (by simpa using hi)
      simp only [List.set_cons_succ, List.sum_cons, List.getElem_cons_succ]
      omega

theorem vector_sum_set {n : Nat} (v : Vector Nat n) (i : Fin n) (x : Nat) :
    (v.set i x).toList.sum + v[i] = v.toList.sum + x := by
  have h := sum_set_add v.toList i x (by simp)
  simpa [Vector.toList_set] using h

/-- What a list's entries sum to without the one entry of a number. -/
theorem sum_filter_id {rs : List FrameRec} {r : FrameRec} (f : FrameRec → Nat) (hids : (rs.map (·.id)).Nodup)
    (hr : r ∈ rs) : ((rs.filter fun x => !(x.id == r.id)).map f).sum + f r = (rs.map f).sum := by
  induction rs with
  | nil => cases hr
  | cons x xs ih =>
    rw [List.map_cons, List.nodup_cons] at hids
    obtain ⟨hx, hxs⟩ := hids
    rcases List.mem_cons.mp hr with rfl | hr
    · have hothers : xs.filter (fun y => !(y.id == r.id)) = xs := List.filter_eq_self.mpr fun y hy => by
        have hne : y.id ≠ r.id := fun h => hx (h ▸ List.mem_map_of_mem hy)
        simpa using hne
      simp only [List.filter_cons, beq_self_eq_true, Bool.not_true, hothers, List.map_cons, List.sum_cons]
      simp only [Bool.false_eq_true, if_false]
      omega
    · have hne : x.id ≠ r.id := fun h => hx (h ▸ List.mem_map_of_mem hr)
      have h := ih hxs hr
      simp only [List.filter_cons, hne, Bool.not_eq_true', beq_eq_false_iff_ne, ne_eq, not_false_eq_true, if_true,
        List.map_cons, List.sum_cons]
      omega

/-- The blocks of a record as the account of a source counts them. -/
def FrameRec.blocksOf (src : Source) (r : FrameRec) : Nat := if r.source = src then r.blocks else 0

theorem Admission.drawn_eq (a : Admission) (src : Source) : a.drawn src = (a.records.map (FrameRec.blocksOf src)).sum := by
  unfold Admission.drawn
  induction a.records with
  | nil => rfl
  | cons r rs ih =>
    by_cases h : r.source = src
    · simp [FrameRec.blocksOf, h, ih]
    · simp [FrameRec.blocksOf, h, ih]

/-! ## The accounts of frame memory -/

/-- The accounts speak of the memory's own fields alone. -/
theorem Admission.MemoryOk.congr {a b : Admission} (h : a.MemoryOk) (hfree : b.free = a.free) (hinUse : b.inUse = a.inUse)
    (hreserve : b.reserve = a.reserve) (hrecords : b.records = a.records) (hnext : b.nextId = a.nextId) : b.MemoryOk := by
  obtain ⟨total, pools, reserveDrawn, reserveMost, reserveFree, ids, named, counted⟩ := h
  unfold Admission.drawn at pools reserveDrawn
  constructor
  · rw [hfree, hinUse, hreserve, total]
  · unfold Admission.drawn
    rwa [hinUse, hrecords]
  · unfold Admission.drawn
    rwa [hreserve, hrecords]
  · rwa [hreserve]
  · rwa [hfree, hreserve]
  · rwa [hrecords]
  · rwa [hrecords, hnext]
  · rwa [hrecords]

/-- A change of the named record's bytes, watch or count, with a count left. -/
theorem Admission.MemoryOk.updRecord {a : Admission} (h : a.MemoryOk) (ref : FrameRef) {f : FrameRec → FrameRec}
    (hid : ∀ r, (f r).id = r.id) (hsource : ∀ r, (f r).source = r.source) (hblocks : ∀ r, (f r).blocks = r.blocks)
    (hcount : ∀ r ∈ a.records, r.id = ref.id → ref.restart = a.restarts → 1 ≤ (f r).count) :
    (a.updRecord ref f).MemoryOk := by
  obtain ⟨hfree, hinUse, hreserve, -, -, -, hnext, -⟩ := a.updRecord_frame ref f
  have hdrawn (src : Source) : (a.updRecord ref f).drawn src = a.drawn src := by
    rw [Admission.drawn_eq, Admission.drawn_eq,
      a.updRecord_map ref f (FrameRec.blocksOf src) fun r => by simp only [FrameRec.blocksOf, hsource, hblocks]]
  have hids : (a.updRecord ref f).records.map (·.id) = a.records.map (·.id) := a.updRecord_map ref f (·.id) hid
  constructor
  · rw [hfree, hinUse, hreserve, h.total]
  · intro i
    rw [hinUse, hdrawn, h.pools i]
  · rw [hreserve, hdrawn, h.reserveDrawn]
  · rw [hreserve]
    exact h.reserveMost
  · rw [hfree, hreserve]
    exact h.reserveFree
  · rw [hids]
    exact h.ids
  · intro r hr
    have hmem : r.id ∈ a.records.map (·.id) := hids ▸ List.mem_map_of_mem hr
    obtain ⟨x, hx, hxr⟩ := List.mem_map.mp hmem
    rw [hnext, ← hxr]
    exact h.named x hx
  · intro r hr
    rw [Admission.updRecord_records] at hr
    split at hr
    · rename_i hrestart
      obtain ⟨x, hx, rfl⟩ := List.mem_map.mp hr
      split
      · rename_i hxid
        exact hcount x hx hxid hrestart
      · exact h.counted x hx
    · exact h.counted r hr

/-- What a new record adds to the accounts. -/
theorem Admission.addRecord_drawn (a : Admission) (src src' : Source) (n : Nat) :
    (a.addRecord src n).drawn src' = a.drawn src' + if src = src' then n else 0 := by
  simp [Admission.drawn_eq, Admission.addRecord, FrameRec.blocksOf]

/-- A new record keeps the records' own laws. -/
theorem Admission.MemoryOk.addRecord_records {a : Admission} (h : a.MemoryOk) (src : Source) (n : Nat) :
    ((a.addRecord src n).records.map (·.id)).Nodup ∧
      (∀ r ∈ (a.addRecord src n).records, r.id < (a.addRecord src n).nextId) ∧
      ∀ r ∈ (a.addRecord src n).records, 1 ≤ r.count := by
  simp only [Admission.addRecord]
  refine ⟨?_, fun r hr => ?_, fun r hr => ?_⟩
  · rw [List.map_append, List.nodup_append]
    refine ⟨h.ids, by simp, fun i hi j hj => ?_⟩
    obtain ⟨r, hr, rfl⟩ := List.mem_map.mp hi
    simp only [List.map_cons, List.map_nil, List.mem_singleton] at hj
    exact (hj ▸ h.named r hr).ne
  · obtain hr | hr := List.mem_append.mp hr
    · exact (h.named r hr).trans (Nat.lt_succ_self _)
    · obtain rfl := List.mem_singleton.mp hr
      exact Nat.lt_succ_self _
  · obtain hr | hr := List.mem_append.mp hr
    · exact h.counted r hr
    · obtain rfl := List.mem_singleton.mp hr
      exact Nat.le_refl _

/-- A grant takes free blocks for its pool, and leaves the reserve its own (R104). -/
theorem Admission.MemoryOk.grant {a : Admission} {q : GrantReq} (h : a.MemoryOk) (hpool : a.poolAllows q = true) :
    (a.grant q).MemoryOk := by
  have hroom : blocksFor q.len + (16 - a.reserve) ≤ a.free := by
    simp only [Admission.poolAllows, Bool.and_eq_true, decide_eq_true_eq] at hpool
    exact hpool.2
  obtain ⟨hids, hnamed, hcounted⟩ := h.addRecord_records (.pool q.pool) (blocksFor q.len)
  have hdrawn (src : Source) : (a.grant q).drawn src = a.drawn src + if .pool q.pool = src then blocksFor q.len else 0 :=
    a.addRecord_drawn (.pool q.pool) src (blocksFor q.len)
  have hsum := vector_sum_set a.inUse q.pool (a.inUse[q.pool] + blocksFor q.len)
  have htotal := h.total
  have hfree := h.reserveFree
  have hmost := h.reserveMost
  constructor
  · show a.free - blocksFor q.len + (a.inUse.set q.pool (a.inUse[q.pool] + blocksFor q.len)).toList.sum + a.reserve = 2048
    omega
  · intro i
    rw [hdrawn, ← h.pools i]
    show (a.inUse.set q.pool (a.inUse[q.pool] + blocksFor q.len))[i] = _
    by_cases hi : q.pool = i
    · subst hi
      simp
    · have hne : q.pool.val ≠ i.val := fun e => hi (Fin.ext e)
      simp [hi, hne]
  · rw [hdrawn, ← h.reserveDrawn]
    rfl
  · exact hmost
  · show 16 ≤ a.free - blocksFor q.len + a.reserve
    omega
  · exact hids
  · exact hnamed
  · exact hcounted

/-- A reserve grant takes free blocks for the reserve, which always has its own (R103, R106). -/
theorem Admission.MemoryOk.reserveGrant {a : Admission} {len : Nat} (h : a.MemoryOk)
    (hroom : a.reserve + blocksFor len ≤ 16) : (a.reserveGrant len).MemoryOk := by
  obtain ⟨hids, hnamed, hcounted⟩ := h.addRecord_records .reserve (blocksFor len)
  have hdrawn (src : Source) : (a.reserveGrant len).drawn src = a.drawn src + if .reserve = src then blocksFor len else 0 :=
    a.addRecord_drawn .reserve src (blocksFor len)
  have htotal := h.total
  have hfree := h.reserveFree
  constructor
  · show a.free - blocksFor len + a.inUse.toList.sum + (a.reserve + blocksFor len) = 2048
    omega
  · intro i
    rw [hdrawn, ← h.pools i]
    rfl
  · rw [hdrawn, ← h.reserveDrawn]
    rfl
  · exact hroom
  · show 16 ≤ a.free - blocksFor len + (a.reserve + blocksFor len)
    omega
  · exact hids
  · exact hnamed
  · exact hcounted

/-- The blocks of a record returned leave the account of its source and are free again (R109). -/
theorem Admission.MemoryOk.returnBlocks {a : Admission} {r : FrameRec} (h : a.MemoryOk) (hr : r ∈ a.records) :
    (a.returnBlocks r).MemoryOk := by
  have hrecords : (a.returnBlocks r).records = a.records.filter fun x => !(x.id == r.id) := by
    unfold Admission.returnBlocks
    cases r.source <;> rfl
  have hdrawn (src : Source) : (a.returnBlocks r).drawn src + FrameRec.blocksOf src r = a.drawn src := by
    rw [Admission.drawn_eq, Admission.drawn_eq, hrecords]
    exact sum_filter_id _ h.ids hr
  have hsub : ((a.returnBlocks r).records).Sublist a.records := hrecords ▸ List.filter_sublist
  have hnext : (a.returnBlocks r).nextId = a.nextId := by
    unfold Admission.returnBlocks
    cases r.source <;> rfl
  have hfree : (a.returnBlocks r).free = a.free + r.blocks := by
    unfold Admission.returnBlocks
    cases r.source <;> rfl
  have hids : ((a.returnBlocks r).records.map (·.id)).Nodup := h.ids.sublist (hsub.map _)
  have hnamed : ∀ x ∈ (a.returnBlocks r).records, x.id < (a.returnBlocks r).nextId := fun x hx =>
    hnext ▸ h.named x (hsub.subset hx)
  have hcounted : ∀ x ∈ (a.returnBlocks r).records, 1 ≤ x.count := fun x hx => h.counted x (hsub.subset hx)
  have htotal := h.total
  have hmost := h.reserveMost
  have hleft := h.reserveFree
  cases hsource : r.source with
  | pool i =>
    have hown : FrameRec.blocksOf (.pool i) r = r.blocks := if_pos hsource
    have hinUse : (a.returnBlocks r).inUse = a.inUse.set i (a.inUse[i] - r.blocks) := by
      simp only [Admission.returnBlocks, hsource]
    have hreserve : (a.returnBlocks r).reserve = a.reserve := by simp only [Admission.returnBlocks, hsource]
    have hdrawnOwn := hdrawn (.pool i)
    have hpool := h.pools i
    have hsum := vector_sum_set a.inUse i (a.inUse[i] - r.blocks)
    refine ⟨?_, fun j => ?_, ?_, hreserve ▸ hmost, by omega, hids, hnamed, hcounted⟩
    · rw [hfree, hinUse, hreserve]
      omega
    · rw [hinUse]
      by_cases hj : i = j
      · subst hj
        simp only [Fin.getElem_fin, Vector.getElem_set_self]
        simp only [Fin.getElem_fin] at hpool
        omega
      · have hne : i.val ≠ j.val := fun e => hj (Fin.ext e)
        have hother : FrameRec.blocksOf (.pool j) r = 0 := if_neg fun e => hj (Source.pool.inj (hsource.symm.trans e))
        have hdrawnOther := hdrawn (.pool j)
        have hpoolOther := h.pools j
        simp only [Fin.getElem_fin] at hpoolOther
        simp only [Fin.getElem_fin, Vector.getElem_set, hne, if_false]
        omega
    · have hother : FrameRec.blocksOf .reserve r = 0 := if_neg fun e => by simp [hsource] at e
      have hdrawnOther := hdrawn .reserve
      have hdrawnReserve := h.reserveDrawn
      omega
  | reserve =>
    have hown : FrameRec.blocksOf .reserve r = r.blocks := if_pos hsource
    have hinUse : (a.returnBlocks r).inUse = a.inUse := by simp only [Admission.returnBlocks, hsource]
    have hreserve : (a.returnBlocks r).reserve = a.reserve - r.blocks := by simp only [Admission.returnBlocks, hsource]
    have hdrawnOwn := hdrawn .reserve
    have hdrawnReserve := h.reserveDrawn
    refine ⟨?_, fun j => ?_, by omega, by omega, by omega, hids, hnamed, hcounted⟩
    · rw [hfree, hinUse, hreserve]
      omega
    · have hother : FrameRec.blocksOf (.pool j) r = 0 := if_neg fun e => by simp [hsource] at e
      have hdrawnOther := hdrawn (.pool j)
      rw [hinUse, h.pools j]
      omega

/-- With no record every block is free. -/
theorem Admission.memoryOk_of_empty {a : Admission} (hrecords : a.records = []) (hinUse : a.inUse = Vector.replicate 8 0)
    (hreserve : a.reserve = 0) (hfree : a.free = 2048) : a.MemoryOk := by
  have hdrawn (src : Source) : a.drawn src = 0 := by simp [Admission.drawn, hrecords]
  constructor
  · rw [hfree, hinUse, hreserve]
    rfl
  · intro i
    rw [hdrawn, hinUse]
    simp
  · rw [hdrawn, hreserve]
  · omega
  · omega
  · simp [hrecords]
  · simp [hrecords]
  · simp [hrecords]

/-! ## Credits -/

theorem Policer.charge_cfg (p : Policer) (len : Nat) : (p.charge len).cfg = p.cfg := by
  unfold Policer.charge
  split <;> rfl

theorem Policer.charge_credit {p : Policer} (h : p.credit ≤ p.ceiling) (len : Nat) :
    (p.charge len).credit ≤ (p.charge len).ceiling := by
  unfold Policer.charge
  split
  · exact (Nat.sub_le _ _).trans h
  · exact h

theorem Policer.swapTo_credit {p : Policer} (c : PolicerCfg) : (p.swapTo c).credit ≤ (p.swapTo c).ceiling := by
  simp only [Policer.swapTo]
  split
  · exact Nat.le_refl _
  · exact Nat.min_le_right _ _

theorem Policer.refilled_cfg (p : Policer) : p.refilled.cfg = p.cfg := by
  unfold Policer.refilled
  split <;> rfl

/-- A grant charges the policer it names (R99). -/
theorem Admission.grant_policers_cases (a : Admission) (q : GrantReq) :
    (a.grant q).policers = a.policers ∨
      ∃ i : Fin 64, (a.grant q).policers = a.policers.set i ((a.policers[i]).charge q.len) := by
  simp only [Admission.grant, Admission.addRecord]
  split
  · exact .inl rfl
  · exact .inr ⟨_, rfl⟩

/-- A grant's charge changes no policer's configuration and keeps the credits within their ceilings (R99). -/
theorem Admission.grant_policers (a : Admission) (q : GrantReq) :
    (a.grant q).policerConfig = a.policerConfig ∧ (a.CreditsOk → (a.grant q).CreditsOk) := by
  simp only [Admission.policerConfig, Admission.CreditsOk]
  obtain h | ⟨i, h⟩ := a.grant_policers_cases q <;> rw [h]
  · exact ⟨rfl, id⟩
  · refine ⟨Vector.ext fun j hj => ?_, fun hok j => ?_⟩
    · by_cases hij : i.val = j
      · subst hij
        simp [Policer.charge_cfg]
      · simp [hij]
    · by_cases hij : i.val = j.val
      · obtain rfl := Fin.ext hij
        simpa using Policer.charge_credit (hok i) q.len
      · simpa [Vector.getElem_set, hij] using hok j

/-! ## What the admission unit's operations keep -/

/-- What every command but a swap and a FULL restart keeps at the admission unit: the laws of credits and of frame memory, and
the active configuration (R97, R101 to R103). -/
structure Admission.Keeps (a b : Admission) : Prop where
  credits : a.CreditsOk → b.CreditsOk
  memory : a.MemoryOk → b.MemoryOk
  config : b.policerConfig = a.policerConfig
  quotas : b.quotas = a.quotas

theorem Admission.Keeps.refl (a : Admission) : a.Keeps a := ⟨id, id, rfl, rfl⟩

theorem Admission.Keeps.trans {a b c : Admission} (h : a.Keeps b) (h' : b.Keeps c) : a.Keeps c :=
  ⟨h'.credits ∘ h.credits, h'.memory ∘ h.memory, h'.config.trans h.config, h'.quotas.trans h.quotas⟩

/-- A change of the shadow and of the counters alone. -/
theorem Admission.Keeps.of_frame {a b : Admission} (hpolicers : b.policers = a.policers := by rfl)
    (hquotas : b.quotas = a.quotas := by rfl) (hfree : b.free = a.free := by rfl) (hinUse : b.inUse = a.inUse := by rfl)
    (hreserve : b.reserve = a.reserve := by rfl) (hrecords : b.records = a.records := by rfl)
    (hnext : b.nextId = a.nextId := by rfl) : a.Keeps b where
  credits h := by rwa [Admission.CreditsOk, hpolicers]
  memory h := h.congr hfree hinUse hreserve hrecords hnext
  config := by rw [Admission.policerConfig, hpolicers, Admission.policerConfig]
  quotas := hquotas

theorem Admission.Keeps.updRecord (a : Admission) (ref : FrameRef) {f : FrameRec → FrameRec}
    (hid : ∀ r, (f r).id = r.id) (hsource : ∀ r, (f r).source = r.source) (hblocks : ∀ r, (f r).blocks = r.blocks)
    (hcount : a.MemoryOk → ∀ r ∈ a.records, r.id = ref.id → ref.restart = a.restarts → 1 ≤ (f r).count) :
    a.Keeps (a.updRecord ref f) := by
  obtain ⟨-, -, -, hpolicers, hquotas, -⟩ := a.updRecord_frame ref f
  exact
    { credits := fun h => by rwa [Admission.CreditsOk, hpolicers]
      memory := fun h => h.updRecord ref hid hsource hblocks (hcount h)
      config := by rw [Admission.policerConfig, hpolicers, Admission.policerConfig]
      quotas := hquotas }

/-- An update of the named record that lowers no count. -/
theorem Admission.Keeps.updRecord_le (a : Admission) (ref : FrameRef) {f : FrameRec → FrameRec}
    (hid : ∀ r, (f r).id = r.id) (hsource : ∀ r, (f r).source = r.source) (hblocks : ∀ r, (f r).blocks = r.blocks)
    (hcount : ∀ r, r.count ≤ (f r).count) : a.Keeps (a.updRecord ref f) :=
  .updRecord a ref hid hsource hblocks fun h r hr _ _ => (h.counted r hr).trans (hcount r)

theorem Admission.countRefusal_keeps (a : Admission) (q : GrantReq) (f : KeyCount → KeyCount) :
    a.Keeps (a.countRefusal q f) := by
  unfold Admission.countRefusal
  split
  · exact .refl a
  · exact .of_frame

theorem Admission.grant_keeps {a : Admission} {q : GrantReq} (hpool : a.poolAllows q = true) : a.Keeps (a.grant q) where
  credits := (a.grant_policers q).2
  memory h := h.grant hpool
  config := (a.grant_policers q).1
  quotas := rfl

theorem Admission.reserveGrant_keeps {a : Admission} {len : Nat} (hroom : a.reserve + blocksFor len ≤ 16) :
    a.Keeps (a.reserveGrant len) := ⟨id, fun h => h.reserveGrant hroom, rfl, rfl⟩

theorem Admission.returnBlocks_keeps {a : Admission} {r : FrameRec} (hr : r ∈ a.records) : a.Keeps (a.returnBlocks r) where
  credits h := by
    unfold Admission.returnBlocks
    cases r.source <;> exact h
  memory h := h.returnBlocks hr
  config := by
    unfold Admission.returnBlocks
    cases r.source <;> rfl
  quotas := by
    unfold Admission.returnBlocks
    cases r.source <;> rfl

theorem Admission.trafficRestart_keeps (a : Admission) : a.Keeps a.trafficRestart where
  credits _ := fun i => by simp [Admission.trafficRestart]
  memory _ := Admission.memoryOk_of_empty rfl rfl rfl rfl
  config := by
    simp only [Admission.policerConfig, Admission.trafficRestart, Vector.map_map]
    rfl
  quotas := rfl

/-- Two records of one number are one record. -/
theorem Admission.MemoryOk.eq_of_id {a : Admission} (h : a.MemoryOk) {r x : FrameRec} (hr : r ∈ a.records)
    (hx : x ∈ a.records) (hid : x.id = r.id) : x = r := List.inj_on_of_nodup_map h.ids hx hr hid

/-- A release keeps the laws: the count it lowers is above 1, or the record ends and its blocks return (R109). -/
theorem State.releaseRef_keeps (s : State) (ref : FrameRef) : s.adm.Keeps (s.releaseRef ref).adm := by
  obtain ⟨-, h⟩ | ⟨r, hr, ⟨hcount, h⟩ | ⟨-, h⟩⟩ := s.releaseRef_cases ref <;> rw [h]
  · exact .refl _
  · obtain ⟨-, hmem, hid⟩ := Admission.recordOf_some hr
    refine .updRecord _ ref (fun _ => rfl) (fun _ => rfl) (fun _ => rfl) fun hok x hx hxid _ => ?_
    obtain rfl := hok.eq_of_id hmem hx (hxid.trans hid.symm)
    show 1 ≤ x.count - 1
    omega
  · exact Admission.returnBlocks_keeps (Admission.recordOf_some hr).2.1

theorem State.takeReleases_keeps (s : State) (ref : FrameRef) : s.adm.Keeps (s.takeReleases ref).adm :=
  s.takeReleases_induct ref (P := fun t => s.adm.Keeps t.adm) (.refl _) fun t h => h.trans (t.releaseRef_keeps ref)

theorem State.writeFrame_keeps (s : State) (ref : FrameRef) (bytes : List Byte) :
    s.adm.Keeps (s.writeFrame ref bytes).adm :=
  .updRecord_le _ ref (fun _ => rfl) (fun _ => rfl) (fun _ => rfl) fun _ => Nat.le_refl _

end Sys2Proof.Machine
end

section
set_option Elab.async false
/-! The laws of the directory banks and of the egress unit's ports through their operations (R23, R139, R143, R146). -/

namespace Sys2Proof.Machine

/-! ## Directory banks -/

theorem bankOk_iff (b : List DirRecord) : bankOk b = true ↔ ascending b = true ∧ b.length ≤ 384 := by
  simp only [bankOk, Bool.and_eq_true, decide_eq_true_eq]

/-- Fewer records of a bank in order are in order. -/
theorem bankOk_of_sublist {b b' : List DirRecord} (h : b'.Sublist b) (hb : bankOk b = true) : bankOk b' = true := by
  rw [bankOk_iff, ascending_iff_pairwise] at *
  exact ⟨hb.1.sublist h, h.length_le.trans hb.2⟩

/-- The records of a bank after an insertion: the inserted one and what the bank held. -/
theorem mem_insertRecord {r x : DirRecord} {b : List DirRecord} (h : x ∈ insertRecord r b) : x = r ∨ x ∈ b := by
  induction b with
  | nil => exact .inl (List.mem_singleton.mp h)
  | cons y ys ih =>
    simp only [insertRecord] at h
    split at h
    · exact List.mem_cons.mp h
    · split at h
      · exact (List.mem_cons.mp h).imp id (List.mem_cons_of_mem y)
      · obtain rfl | h := List.mem_cons.mp h
        · exact .inr List.mem_cons_self
        · exact (ih h).imp id (List.mem_cons_of_mem y)

/-- The records of a bank after a record write: those written and what the bank held. -/
theorem mem_writeRecords {x : DirRecord} {b rs : List DirRecord} (h : x ∈ writeRecords b rs) : x ∈ rs ∨ x ∈ b := by
  induction rs generalizing b with
  | nil => exact .inr h
  | cons r rs ih =>
    obtain h | h := ih (b := insertRecord r b) h
    · exact .inl (List.mem_cons_of_mem r h)
    · obtain rfl | h := mem_insertRecord h
      · exact .inl List.mem_cons_self
      · exact .inr h

/-! ## Class queues -/

/-- What `choose` takes is a PLACED copy, and one place less is held. -/
theorem choose_slots {x : PortEgress} {c : CopyPlace} {q : PerClass (List CopyPlace)}
    (h : choose x.queues = some (c, q)) : ({ x with queues := q } : PortEgress).slots ≤ x.slots := by
  have htail {q rest : List CopyPlace} (h : placedHead q = some (c, rest)) : rest.length ≤ q.length := by
    unfold placedHead at h
    split at h
    · split at h
      · obtain ⟨rfl, rfl⟩ := Prod.mk.inj (Option.some.inj h)
        exact Nat.le_succ _
      · cases h
    · cases h
  unfold choose at h
  unfold PortEgress.slots
  split at h
  · rename_i c' rest hhead
    obtain ⟨rfl, rfl⟩ := Prod.mk.inj (Option.some.inj h)
    exact Nat.add_le_add_left (htail hhead) _
  split at h
  · rename_i c' rest hhead
    obtain ⟨rfl, rfl⟩ := Prod.mk.inj (Option.some.inj h)
    have := htail hhead
    dsimp only
    omega
  split at h
  · rename_i c' rest hhead
    obtain ⟨rfl, rfl⟩ := Prod.mk.inj (Option.some.inj h)
    have := htail hhead
    dsimp only
    omega
  split at h
  · rename_i c' rest hhead
    obtain ⟨rfl, rfl⟩ := Prod.mk.inj (Option.some.inj h)
    have := htail hhead
    dsimp only
    omega
  · cases h

/-- A transmitter finds nothing to take exactly when no queue has a PLACED head. -/
theorem choose_eq_none_iff (q : PerClass (List CopyPlace)) : choose q = none ↔ ∀ c, placedHead (q.get c) = none := by
  unfold choose
  constructor
  · intro h
    split at h
    · cases h
    split at h
    · cases h
    split at h
    · cases h
    split at h
    · cases h
    rename_i h3 h2 h1 h0
    intro c
    cases c <;> assumption
  · intro h
    have h0 := h .c0
    have h1 := h .c1
    have h2 := h .c2
    have h3 := h .c3
    simp only [PerClass.get] at h0 h1 h2 h3
    rw [h3, h2, h1, h0]

/-- A RESERVED place at the tail gives no queue a PLACED head. -/
theorem placedHead_append_reserved {q : List CopyPlace} {c : CopyPlace} (hc : c.placed = false)
    (h : placedHead q = none) : placedHead (q ++ [c]) = none := by
  cases q with
  | nil => simp [placedHead, hc]
  | cons d q =>
    simp only [placedHead, List.cons_append] at h ⊢
    split at h
    · cases h
    · rename_i hd
      rw [if_neg hd]

theorem PortEgress.slots_reserve (x : PortEgress) (n : Nat) (e : Enqueue) : (x.reserve n e).slots = x.slots + 1 := by
  unfold PortEgress.slots PortEgress.reserve
  cases e.cls <;> simp only [PerClass.get, PerClass.set, List.length_append, List.length_singleton] <;> omega

theorem PortEgress.slots_dropPlace (x : PortEgress) (n : Nat) : (x.dropPlace n).slots ≤ x.slots := by
  unfold PortEgress.slots PortEgress.dropPlace PerClass.map
  have hle (q : List CopyPlace) := List.length_filter_le (fun c : CopyPlace => !(c.place == n)) q
  have := hle x.queues.c0
  have := hle x.queues.c1
  have := hle x.queues.c2
  have := hle x.queues.c3
  dsimp only
  omega

theorem PortEgress.slots_makePlaced (x : PortEgress) (n : Nat) : (x.makePlaced n).slots = x.slots := by
  simp [PortEgress.slots, PortEgress.makePlaced, PerClass.map]

theorem PortEgress.slots_linkDown (x : PortEgress) : x.linkDown.slots ≤ x.slots := by
  unfold PortEgress.slots PortEgress.linkDown PerClass.map
  have hle (q : List CopyPlace) := List.length_filter_le (fun c : CopyPlace => !c.placed) q
  have := hle x.queues.c0
  have := hle x.queues.c1
  have := hle x.queues.c2
  have := hle x.queues.c3
  dsimp only
  omega

/-! ## The law of a port -/

/-- A port's law but for its idling: what holds before its transmitter has chosen. -/
structure PortEgress.Ready (x : PortEgress) : Prop where
  slots : x.slots ≤ 160
  linkUp : x.tx ≠ none → x.link = .up

theorem PortEgress.Ok.ready {x : PortEgress} (h : x.Ok) : x.Ready := ⟨h.slots, h.linkUp⟩

/-- A port keeps its law when a RESERVED place joins a queue with a slot free (R139, R141). -/
theorem PortEgress.Ok.reserve {x : PortEgress} (h : x.Ok) (n : Nat) (e : Enqueue) (hroom : x.slots < 160) :
    (x.reserve n e).Ok where
  slots := by
    rw [x.slots_reserve n e]
    omega
  linkUp := h.linkUp
  busy hlink htx := by
    rw [choose_eq_none_iff]
    have hbefore := (choose_eq_none_iff _).mp (h.busy hlink htx)
    intro c
    by_cases hc : c = e.cls
    · subst hc
      simp only [PortEgress.reserve, PerClass.get_set_self]
      exact placedHead_append_reserved rfl (hbefore e.cls)
    · simp only [PortEgress.reserve]
      rw [PerClass.get_set_ne _ _ _ _ hc]
      exact hbefore c

/-- A port that is DOWN idles as it should. -/
theorem PortEgress.Ready.ok_of_down {x : PortEgress} (h : x.Ready) (hlink : x.link = .down) : x.Ok :=
  ⟨h.slots, h.linkUp, fun hup => by rw [hlink] at hup; cases hup⟩

theorem PortEgress.linkDown_ok {x : PortEgress} (h : x.Ok) : x.linkDown.Ok :=
  PortEgress.Ready.ok_of_down ⟨x.slots_linkDown.trans h.slots, fun htx => absurd rfl htx⟩ rfl

/-- An empty port idles as it should. -/
theorem PortEgress.ok_of_empty {x : PortEgress} (hqueues : x.queues = ⟨[], [], [], []⟩) (htx : x.tx = none) : x.Ok where
  slots := by simp [PortEgress.slots, hqueues]
  linkUp h := absurd htx h
  busy _ _ := by rw [hqueues]; rfl

/-! ## What the egress unit's operations keep -/

/-- What every command but a swap and a FULL restart keeps at the egress unit: the law of its ports and the active limits. -/
structure Egress.Keeps (g h : Egress) : Prop where
  ok : g.Ok → h.Ok
  limits : h.limits = g.limits

theorem Egress.Keeps.refl (g : Egress) : g.Keeps g := ⟨id, rfl⟩

theorem Egress.Keeps.trans {g h k : Egress} (h1 : g.Keeps h) (h2 : h.Keeps k) : g.Keeps k :=
  ⟨h2.ok ∘ h1.ok, h2.limits.trans h1.limits⟩

theorem Egress.limits_get (g : Egress) (p : Port) : g.limits.get p = (g.ports.get p).limits := by
  cases p <;> rfl

/-- A change of one port's queues, link and transmission, with the model's own numbers (log 7). -/
theorem Egress.Keeps.port {g h : Egress} (p : Port) (x : PortEgress) (hports : h.ports = g.ports.set p x)
    (hlimits : x.limits = (g.ports.get p).limits) (hok : (g.ports.get p).Ok → x.Ok) : g.Keeps h where
  ok hg q := by
    rw [hports]
    by_cases hq : q = p
    · subst hq
      rw [PerPort.get_set_self]
      exact hok (hg q)
    · rw [PerPort.get_set_ne _ _ _ _ hq]
      exact hg q
  limits := by
    simp only [Egress.limits, hports]
    cases p <;> simp only [PerPort.set, PerPort.get] at hlimits ⊢ <;> rw [hlimits]

theorem Egress.Keeps.of_ports {g h : Egress} (hports : h.ports = g.ports := by rfl) : g.Keeps h :=
  ⟨fun hg p => hports ▸ hg p, by simp only [Egress.limits, hports]⟩

theorem PerPort.set_set {α : Type} (v : PerPort α) (p : Port) (x y : α) : (v.set p x).set p y = v.set p y := by
  cases p <;> rfl

/-- A transmitter's choice changes its port alone, not the port's link and limits, and the port is then not idle before a
PLACED head (R143). -/
theorem State.transmit_cases (s : State) (p : Port) :
    ∃ x n, s.transmit p = s.withEgr { s.egr with ports := s.egr.ports.set p x, nextTx := n } ∧
      x.limits = (s.egr.ports.get p).limits ∧ ((s.egr.ports.get p).Ready → x.Ok) := by
  have hsame : s = s.withEgr { s.egr with ports := s.egr.ports.set p (s.egr.ports.get p), nextTx := s.egr.nextTx } := by
    rw [PerPort.set_get_self]
    rfl
  unfold State.transmit
  dsimp only
  split
  · rename_i hidle
    obtain ⟨hlink, htx⟩ := hidle
    split
    · rename_i c q hchoose
      exact ⟨_, _, rfl, rfl, fun h => ⟨(choose_slots hchoose).trans h.slots, fun _ => hlink, fun _ htx' => by cases htx'⟩⟩
    · rename_i hchoose
      exact ⟨_, _, hsame, rfl, fun h => ⟨h.slots, h.linkUp, fun _ _ => hchoose⟩⟩
  · rename_i hbusy
    exact ⟨_, _, hsame, rfl, fun h => ⟨h.slots, h.linkUp, fun hlink htx => absurd ⟨hlink, htx⟩ hbusy⟩⟩

/-- A port changed, messages sent, and its transmitter's choice then. -/
theorem State.transmit_after (s : State) (p : Port) (x : PortEgress) (ms : List Msg)
    (hlimits : x.limits = (s.egr.ports.get p).limits) (hready : (s.egr.ports.get p).Ok → x.Ready) :
    ∃ g, ((s.withPort p x).send ms).transmit p = (s.withEgr g).send ms ∧ s.egr.Keeps g := by
  obtain ⟨y, n, ht, hlimits', hok⟩ := ((s.withPort p x).send ms).transmit_cases p
  have hget : ((s.withPort p x).send ms).egr.ports.get p = x := PerPort.get_set_self _ _ _
  rw [hget] at hlimits' hok
  have hports : ((s.egr.ports.set p x).set p y) = s.egr.ports.set p y := PerPort.set_set _ _ _ _
  refine ⟨{ s.egr with ports := s.egr.ports.set p y, nextTx := n }, ?_,
    .port p y rfl (hlimits'.trans hlimits) (hok ∘ hready)⟩
  rw [ht, ← hports]
  rfl

theorem Egress.trafficRestart_keeps (g : Egress) : g.Keeps g.trafficRestart :=
  ⟨fun _ p => by cases p <;> exact PortEgress.ok_of_empty rfl rfl, rfl⟩

end Sys2Proof.Machine
end

section
set_option Elab.async false
/-! What the receivers', the classifier's, the admission unit's, the replicator's and the egress unit's commands can change,
and what they keep. -/

namespace Sys2Proof.Machine

/-! ## The receivers -/

/-- The receiver of a port, as a part of the state. -/
@[reducible] def rxPart (p : Port) : StatePart Receiver where
  get s := s.rx.get p
  put s := s.withRx p
  rel _ _ := True
  refl _ := trivial
  trans _ _ := trivial
  put_get s := by simp only [State.withRx, PerPort.set_get_self]
  get_put s x := PerPort.get_set_self _ _ _
  put_put s x n y := by simp only [State.withRx, PerPort.set_set]
  get_net _ _ := rfl
  net_put _ _ := rfl

/-- `t` is `s` but for the receiver of `p` and plain messages. -/
abbrev State.ReceiverOnly (s : State) (p : Port) (t : State) : Prop := s.Only (rxPart p) t

theorem State.ReceiverOnly.change (s : State) (p : Port) (x : Receiver) : s.ReceiverOnly p (s.withRx p x) :=
  State.Only.put (P := rxPart p) trivial

/-- A receiver's commands change that receiver alone, a link change its pin too (R137). -/
theorem exec_receiver_cases {c : Instr} {p : Port} {s t : State} (hc : c.home = some (.receiver p))
    (h : exec c s = .next t) :
    s.ReceiverOnly p t ∨
      ∃ st x, c = .linkChange p st ∧ State.ReceiverOnly { s with pins := { s.pins with link := x } } p t := by
  cases c with
  | linkChange q st =>
    obtain rfl : q = p := Block.receiver.inj (Option.some.inj hc)
    have h : execLinkChange q st s = .next t := h
    unfold execLinkChange at h
    split at h <;> rw [next_eq_next] at h <;> subst h
    · exact .inl (.refl _)
    · exact .inr ⟨st, _, rfl, (State.ReceiverOnly.change _ q _).send (by cases q <;> simp [linkMessages, laneOf, Msg.plain])⟩
  | frameStart q bytes =>
    obtain rfl : q = p := Block.receiver.inj (Option.some.inj hc)
    have h : execFrameStart q bytes s = .next t := h
    unfold execFrameStart at h
    extract_lets r at h
    split at h <;> rw [next_eq_next] at h <;> subst h
    · exact .inl (.refl _)
    · exact .inl (.change s q _)
  | frameEnd q err =>
    obtain rfl : q = p := Block.receiver.inj (Option.some.inj hc)
    have h : execFrameEnd q err s = .next t := h
    unfold execFrameEnd at h
    split at h <;> rw [next_eq_next] at h <;> subst h
    · exact .inl (.refl _)
    · exact .inl (.change s q _)
  | linkStateRead q =>
    obtain rfl : q = p := Block.receiver.inj (Option.some.inj hc)
    have h : execLinkStateRead q s = .next t := h
    exact .inl (.of_onMsg (fun _ _ _ => .sent (by simp [Msg.plain])) h)
  | receiverCounterRead q =>
    obtain rfl : q = p := Block.receiver.inj (Option.some.inj hc)
    have h : execReceiverCounterRead q s = .next t := h
    refine .inl (.of_onMsg (fun a rest _ => ?_) h)
    dsimp only
    split
    · exact (State.ReceiverOnly.change _ q _).send (by simp [Msg.plain])
    · exact .sent (by simp [Msg.plain])
  | receiverFullRestart q =>
    obtain rfl : q = p := Block.receiver.inj (Option.some.inj hc)
    have h : execReceiverFullRestart q s = .next t := h
    exact .inl (.of_onMsg (fun _ _ _ => (State.ReceiverOnly.change _ q _).send (by simp [Msg.plain])) h)
  | _ => cases hc

/-! ## The classifier -/

/-- What every command but a swap and a FULL restart keeps at the classifier: the active tables, the law of the banks, and the
shadow's records among those known or written (`R`). -/
structure Classifier.Keeps (R : DirRecord → Prop) (c d : Classifier) : Prop where
  bank : d.bank = c.bank
  params : d.params = c.params
  gen : d.gen = c.gen
  banksOk : c.BanksOk → d.BanksOk
  staged : ∀ sh, d.shadow = some sh → ∀ r ∈ sh.bank,
    r ∈ c.bank ∨ (∃ sh', c.shadow = some sh' ∧ r ∈ sh'.bank) ∨ R r

section
variable {R : DirRecord → Prop}

theorem Classifier.Keeps.of_tables {c d : Classifier} (hbank : d.bank = c.bank := by rfl)
    (hparams : d.params = c.params := by rfl) (hgen : d.gen = c.gen := by rfl)
    (hshadow : d.shadow = c.shadow := by rfl) : c.Keeps R d where
  bank := hbank
  params := hparams
  gen := hgen
  banksOk h := ⟨hbank ▸ h.active, hshadow ▸ h.shadow⟩
  staged sh hsh _ hr := .inr (.inl ⟨sh, hshadow ▸ hsh, hr⟩)

theorem Classifier.Keeps.refl (c : Classifier) : c.Keeps R c := Classifier.Keeps.of_tables

theorem Classifier.Keeps.trans {c d e : Classifier} (h : c.Keeps R d) (h' : d.Keeps R e) : c.Keeps R e where
  bank := h'.bank.trans h.bank
  params := h'.params.trans h.params
  gen := h'.gen.trans h.gen
  banksOk := h'.banksOk ∘ h.banksOk
  staged sh hsh r hr := by
    obtain hr | ⟨sh', hsh', hr⟩ | hr := h'.staged sh hsh r hr
    · exact .inl (h.bank ▸ hr)
    · exact h.staged sh' hsh' r hr
    · exact .inr (.inr hr)

/-- The shadow replaced by one whose bank is lawful where the shadow's was, of records known or written. -/
theorem Classifier.Keeps.shadow {c : Classifier} (sh : ClassifierShadow) (hok : c.BanksOk → bankOk sh.bank = true)
    (hrecords : ∀ r ∈ sh.bank, r ∈ c.bank ∨ (∃ sh', c.shadow = some sh' ∧ r ∈ sh'.bank) ∨ R r) :
    c.Keeps R { c with shadow := some sh } where
  bank := rfl
  params := rfl
  gen := rfl
  banksOk h := ⟨h.active, fun x hx => Option.some.inj hx ▸ hok h⟩
  staged x hx r hr := by
    obtain rfl := Option.some.inj hx
    exact hrecords r hr

theorem Classifier.Keeps.discard (c : Classifier) : c.Keeps R { c with shadow := none } where
  bank := rfl
  params := rfl
  gen := rfl
  banksOk h := ⟨h.active, fun _ hx => by cases hx⟩
  staged _ hx := by cases hx

/-- The classifier, as a part of the state. -/
@[reducible] def classifierPart (R : DirRecord → Prop) : StatePart Classifier where
  get := State.cls
  put := State.withCls
  rel := Classifier.Keeps R
  refl := .refl
  trans := .trans
  put_get _ := rfl
  get_put _ _ := rfl
  put_put _ _ _ _ := rfl
  get_net _ _ := rfl
  net_put _ _ := rfl

/-- `t` is `s` but for the classifier and plain messages. -/
abbrev State.ClassifierOnly (R : DirRecord → Prop) (s t : State) : Prop := s.Only (classifierPart R) t

/-- A shadow write of the classifier: a shadow that the write admits is lawful where it was, of records known or written. -/
theorem State.clsShadowWrite_only (s : State) (f : ClassifierShadow → Except WriteResult ClassifierShadow)
    (hok : ∀ sh sh', f sh = .ok sh' → bankOk sh.bank = true → bankOk sh'.bank = true)
    (hrecords : ∀ sh sh', f sh = .ok sh' → ∀ r ∈ sh'.bank, r ∈ sh.bank ∨ R r) :
    State.ClassifierOnly R s (s.clsShadowWrite f) := by
  unfold State.clsShadowWrite
  split
  · exact .sent (by simp [Msg.plain])
  · rename_i sh hsh
    split
    · exact .sent (by simp [Msg.plain])
    · rename_i sh' hf
      exact State.Only.put_send (.shadow sh' (fun h => hok sh sh' hf (h.shadow sh hsh)) fun r hr =>
        .inr ((hrecords sh sh' hf r hr).imp (fun hr => ⟨sh, hsh, hr⟩) id)) (by simp [Msg.plain])

/-- A shadow write that keeps a part of the records. -/
theorem State.clsShadowWrite_only_of_sublist (s : State) (f : ClassifierShadow → Except WriteResult ClassifierShadow)
    (hf : ∀ sh sh', f sh = .ok sh' → sh'.bank.Sublist sh.bank) : State.ClassifierOnly R s (s.clsShadowWrite f) :=
  s.clsShadowWrite_only f (fun sh sh' h => bankOk_of_sublist (hf sh sh' h))
    fun sh sh' h _ hr => .inl ((hf sh sh' h).subset hr)

theorem removalOn_sublist {ks : List Key} {sh sh' : ClassifierShadow} (h : removalOn ks sh = .ok sh') :
    sh'.bank.Sublist sh.bank := by
  unfold removalOn at h
  split at h
  · cases h
  · obtain rfl := Except.ok.inj h
    exact List.filter_sublist

theorem recordWriteOn_ok {rs : List DirRecord} {sh sh' : ClassifierShadow} (h : recordWriteOn rs sh = .ok sh') :
    sh'.bank = writeRecords sh.bank rs ∧ (writeRecords sh.bank rs).length ≤ 384 := by
  unfold recordWriteOn at h
  dsimp only at h
  split at h
  · rename_i hroom
    obtain rfl := Except.ok.inj h
    exact ⟨rfl, hroom⟩
  · cases h

theorem State.recordWriteOn_only (s : State) (rs : List DirRecord) (hR : ∀ r ∈ rs, R r) :
    State.ClassifierOnly R s (s.clsShadowWrite (recordWriteOn rs)) := by
  refine s.clsShadowWrite_only _ (fun sh sh' h hb => ?_) fun sh sh' h r hr => ?_
  · obtain ⟨hbank, hroom⟩ := recordWriteOn_ok h
    rw [hbank, bankOk_iff]
    exact ⟨ascending_writeRecords rs ((bankOk_iff _).mp hb).1, hroom⟩
  · rw [(recordWriteOn_ok h).1] at hr
    exact (mem_writeRecords hr).symm.imp id (hR r)

end

theorem selRecordWrite_records {m : Msg} {rs : List DirRecord} (h : selRecordWrite m = some rs) : m.records = rs := by
  cases m with
  | recordWrite rs' => exact Option.some.inj h
  | _ => cases h

/-- What a queue with room for `n` entries may become: it keeps within them. -/
def KeepsWithin {α : Type} (n : Nat) (q q' : List α) : Prop := q.length ≤ n → q'.length ≤ n

/-- What a classification can change: the classifier's counters, the three input queues, within their room, and the notices
(R29, R30). -/
def State.Classified (s t : State) : Prop :=
  ∃ x mq rq aq n, SendsPlain s.net n ∧ (∀ R, s.cls.Keeps R x) ∧ KeepsWithin 16 s.mrg.queue mq ∧
    KeepsWithin 8 s.rep.queue rq ∧ KeepsWithin 4 s.agt.queue aq ∧
    t = { s with cls := x, mrg := { s.mrg with queue := mq }, rep := { s.rep with queue := rq },
                 agt := { s.agt with queue := aq }, net := n }

theorem State.Classified.trans {s t u : State} (h : s.Classified t) (h' : t.Classified u) : s.Classified u := by
  obtain ⟨x, mq, rq, aq, n, hn, hx, hmq, hrq, haq, rfl⟩ := h
  obtain ⟨x', mq', rq', aq', n', hn', hx', hmq', hrq', haq', rfl⟩ := h'
  exact ⟨x', mq', rq', aq', n', hn.trans hn', fun R => (hx R).trans (hx' R), hmq' ∘ hmq, hrq' ∘ hrq, haq' ∘ haq, rfl⟩

theorem State.classified_send (s : State) (x : Classifier) {ms : List Msg} (h : ∀ m ∈ ms, m.plain = true)
    (hbank : x.bank = s.cls.bank := by rfl) (hparams : x.params = s.cls.params := by rfl)
    (hgen : x.gen = s.cls.gen := by rfl) (hshadow : x.shadow = s.cls.shadow := by rfl) :
    s.Classified ((s.withCls x).send ms) :=
  ⟨x, _, _, _, _, .append h, fun _ => Classifier.Keeps.of_tables hbank hparams hgen hshadow, id, id, id, rfl⟩

theorem State.classified_withCls (s : State) (x : Classifier) (hbank : x.bank = s.cls.bank := by rfl)
    (hparams : x.params = s.cls.params := by rfl) (hgen : x.gen = s.cls.gen := by rfl)
    (hshadow : x.shadow = s.cls.shadow := by rfl) : s.Classified (s.withCls x) :=
  ⟨x, _, _, _, _, .refl _, fun _ => Classifier.Keeps.of_tables hbank hparams hgen hshadow, id, id, id, rfl⟩

theorem keepsWithin_append {α : Type} {n : Nat} {q : List α} {e : α} (h : q.length < n) : KeepsWithin n q (q ++ [e]) :=
  fun _ => by simpa using h

theorem State.toMerge_classified (s : State) (p : Port) (e : MergeEntry) : s.Classified (s.toMerge p e) := by
  unfold State.toMerge
  split
  · rename_i hroom
    exact ⟨_, _, _, _, _, .refl _, fun _ => .refl _, keepsWithin_append hroom, id, id, rfl⟩
  · exact s.classified_withCls _

theorem State.toReplicator_classified (s : State) (e : RepEntry) : s.Classified (s.toReplicator e) := by
  unfold State.toReplicator
  split
  · rename_i hroom
    exact ⟨_, _, _, _, _, .refl _, fun _ => .refl _, id, keepsWithin_append hroom, id, rfl⟩
  · exact s.classified_withCls _

theorem State.unknownFromLane_classified (s : State) (l : Lane) (f : List Byte) :
    s.Classified (s.unknownFromLane l f) := by
  unfold State.unknownFromLane
  extract_lets s1
  have h : s.Classified s1 := s.classified_send _ (by simp [Msg.plain])
  split
  · exact h.trans (s1.toMerge_classified _ _)
  · exact h

theorem State.classifyLane_classified (s : State) (l : Lane) (f : List Byte) : s.Classified (s.classifyLane l f) := by
  unfold State.classifyLane
  split
  · exact s.classified_withCls _
  split
  · exact s.classified_send _ (by simp [Msg.plain])
  split
  · split
    · exact s.toMerge_classified _ _
    · exact s.classified_withCls _
  split
  · split
    · exact s.toMerge_classified _ _
    · exact s.classified_withCls _
  · exact s.classified_withCls _
  · exact s.unknownFromLane_classified l f

theorem State.classifyT_classified (s : State) (f : List Byte) : s.Classified (s.classifyT f) := by
  cases hheader : headerOk f with
  | false => exact s.classifyT_of_badHeader hheader ▸ s.classified_withCls _
  | true =>
    cases htrail : trailed f with
    | true => exact s.classifyT_of_trail hheader htrail ▸ s.classified_withCls _
    | false =>
      by_cases hown : frameKind f = 2 ∧ frameKey f = ownRequestKey s.node
      · rw [s.classifyT_of_ownRequest hheader htrail hown]
        split
        · rename_i hroom
          exact ⟨_, _, _, _, _, .refl _, fun _ => .refl _, id, id, keepsWithin_append hroom, rfl⟩
        · exact s.classified_withCls _
      · rw [s.classifyT_of_key hheader htrail hown]
        split
        · exact s.toReplicator_classified _
        · exact s.classified_withCls _
        · dsimp only
          split
          · exact s.classified_withCls _
          · exact (s.classified_withCls _).trans (State.toReplicator_classified _ _)

theorem State.classify_classified (s : State) (p : Port) (f : List Byte) : s.Classified (s.classify p f) := by
  unfold State.classify
  split
  · exact s.classifyLane_classified _ f
  · exact s.classifyT_classified f

/-- CLASSIFY takes the frame awaiting at its port and classifies it; without one it changes nothing (R29, R136). -/
theorem exec_classify_cases {p : Port} {s t : State} (h : exec (.classify p) s = .next t) :
    ((s.rx.get p).awaiting = none ∧ t = s) ∨
      ∃ f, (s.rx.get p).awaiting = some f ∧ t = (s.withRx p { s.rx.get p with awaiting := none }).classify p f := by
  cases hawait : (s.rx.get p).awaiting with
  | none =>
    have h : execClassify p s = .next t := h
    rw [execClassify, hawait] at h
    exact .inl ⟨rfl, next_eq_next.mp h⟩
  | some f =>
    rw [exec_classify_of_awaiting hawait] at h
    exact .inr ⟨f, rfl, next_eq_next.mp h⟩

/-- What the classifier's configuration commands make: the shadow active and the report of the swap sent (R41), or the
power-on values at a FULL restart (R44). -/
inductive State.ClassifierSet (s : State) : Instr → State → Prop
  | swapped (rest : List Msg) (sh : ClassifierShadow) (htake : takeFirst (selSwap .classifier) s.net = some ((), rest))
      (hsh : s.cls.shadow = some sh) :
      State.ClassifierSet s .classifierSwap
        ((s.took rest [.swapReport (some
          { gen := s.cls.gen + 1, params := sh.params.agentPart, changes := changeList s.cls.bank sh.bank })]).withCls
          (s.cls.swapped sh))
  | restarted (rest : List Msg) (hrest : rest.Sublist s.net) :
      State.ClassifierSet s .classifierFullRestart
        ((s.took rest [.restartDone .classifier]).withCls (.powerOn s.cls.links))

/-- The classifier's commands but CLASSIFY change the classifier alone, and its active tables at a swap and at a FULL restart
alone. -/
theorem exec_classifier_cases {c : Instr} {s t : State} (hc : c.home = some .classifier)
    (hclassify : ∀ p, c ≠ .classify p) (h : exec c s = .next t) :
    State.ClassifierOnly s.RecordSent s t ∨ s.ClassifierSet c t := by
  cases c with
  | classify p => exact absurd rfl (hclassify p)
  | classifierSwap =>
    have h : execClassifierSwap s = .next t := h
    obtain ⟨-, rfl⟩ | ⟨x, rest, htake, rfl⟩ := State.onMsg_cases h
    · exact .inl (.refl t)
    · cases hsh : s.cls.shadow with
      | none =>
        dsimp only
        exact .inl ((State.Only.net (.of_takeFirst htake)).send (by simp [Msg.plain]))
      | some sh =>
        dsimp only
        exact .inr (.swapped rest sh htake hsh)
  | classifierFullRestart =>
    have h : execClassifierFullRestart s = .next t := h
    obtain ⟨-, rfl⟩ | ⟨x, rest, htake, rfl⟩ := State.onMsg_cases h
    · exact .inl (.refl t)
    · exact .inr (.restarted rest (takeFirst_sublist htake))
  | classifierLinkChange l =>
    have h : execClassifierLinkChange l s = .next t := h
    exact .inl (.of_onMsg (fun _ _ _ => .put Classifier.Keeps.of_tables) h)
  | classifierShadowCreate =>
    have h : execClassifierShadowCreate s = .next t := h
    refine .inl (.of_onMsg (fun _ rest _ => ?_) h)
    split
    · exact .sent (by simp [Msg.plain])
    · exact State.Only.put_send (.shadow _ (fun hok => hok.active) fun _ hr => .inl hr) (by simp [Msg.plain])
  | classifierShadowDiscard =>
    have h : execClassifierShadowDiscard s = .next t := h
    exact .inl (.of_onMsg (fun _ _ _ => State.Only.put_send (Classifier.Keeps.discard _) (by simp [Msg.plain])) h)
  | recordWrite =>
    have h : execRecordWrite s = .next t := h
    refine .inl (.of_onMsg (fun rs rest htake => State.recordWriteOn_only _ rs fun r hr => ?_) h)
    obtain ⟨m, hm, hsel⟩ := mem_of_takeFirst htake
    exact ⟨m, hm, (selRecordWrite_records hsel).symm ▸ hr⟩
  | removal =>
    have h : execRemoval s = .next t := h
    exact .inl (.of_onMsg (fun ks _ _ => State.clsShadowWrite_only_of_sublist _ _ fun _ _ => removalOn_sublist) h)
  | emptyBankWrite =>
    have h : execEmptyBankWrite s = .next t := h
    refine .inl (.of_onMsg (fun _ _ _ => State.clsShadowWrite_only_of_sublist _ _ fun sh sh' hf => ?_) h)
    obtain rfl := Except.ok.inj hf
    exact List.nil_sublist _
  | deviceWrite =>
    have h : execDeviceWrite s = .next t := h
    refine .inl (.of_onMsg (fun _ _ _ => State.clsShadowWrite_only_of_sublist _ _ fun sh sh' hf => ?_) h)
    obtain rfl := Except.ok.inj hf
    exact .refl _
  | recordRead =>
    have h : execRecordRead s = .next t := h
    exact .inl (.of_onMsg (fun _ _ _ => .sent (by simp [Msg.plain])) h)
  | classifierEntryRead w =>
    have h : execClassifierEntryRead w s = .next t := h
    exact .inl (.of_onMsg (fun _ _ _ => .sent (by simp)) h)
  | nextRead w =>
    have h : execNextRead w s = .next t := h
    exact .inl (.of_onMsg (fun _ _ _ => .sent (by simp)) h)
  | classifierCounterRead =>
    have h : execClassifierCounterRead s = .next t := h
    refine .inl (.of_onMsg (fun a rest _ => ?_) h)
    dsimp only
    split <;> split
    · exact State.Only.put_send Classifier.Keeps.of_tables (by simp [Msg.plain])
    · exact .sent (by simp [Msg.plain])
    · exact State.Only.put_send Classifier.Keeps.of_tables (by simp [Msg.plain])
    · exact .sent (by simp [Msg.plain])
  | classifierTrafficRestart =>
    have h : execClassifierTrafficRestart s = .next t := h
    exact .inl (.of_onMsg (fun _ _ _ => .sent (by simp [Msg.plain])) h)
  | _ => cases hc

/-! ## The admission unit -/

/-- The admission unit, as a part of the state. -/
@[reducible] def admissionPart : StatePart Admission where
  get := State.adm
  put := State.withAdm
  rel := Admission.Keeps
  refl := .refl
  trans := .trans
  put_get _ := rfl
  get_put _ _ := rfl
  put_put _ _ _ _ := rfl
  get_net _ _ := rfl
  net_put _ _ := rfl

/-- `t` is `s` but for the admission unit and plain messages. -/
abbrev State.AdmissionOnly (s t : State) : Prop := s.Only admissionPart t

theorem State.grantRequest_only (s : State) (q : GrantReq) : s.AdmissionOnly (s.grantRequest q) := by
  unfold State.grantRequest
  split
  · exact State.Only.put_send (s.adm.countRefusal_keeps q _) (by simp [Msg.plain])
  · split
    · exact State.Only.put_send (s.adm.countRefusal_keeps q _) (by simp [Msg.plain])
    · rename_i hpool
      exact State.Only.put_send (Admission.grant_keeps (by simpa using hpool)) (by simp [Msg.plain])

theorem State.reserveGrantRequest_only (s : State) (who : Block) (hand len : Nat) :
    s.AdmissionOnly (s.reserveGrantRequest who hand len) := by
  unfold State.reserveGrantRequest
  split
  · rename_i hroom
    exact State.Only.put_send (Admission.reserveGrant_keeps hroom) (by simp [Msg.plain])
  · exact State.Only.put_send Admission.Keeps.of_frame (by simp [Msg.plain])

theorem State.copyAdd_only (s : State) (c : CopyReq) : s.AdmissionOnly (s.copyAdd c) := by
  unfold State.copyAdd
  split
  · refine State.Only.put_send (Admission.Keeps.updRecord_le _ c.ref ?_ ?_ ?_ ?_) ?_
    · exact fun _ => rfl
    · exact fun _ => rfl
    · exact fun _ => rfl
    · exact fun r => Nat.le_succ r.count
    · simp [Msg.plain]
  · exact .sent (by simp [Msg.plain])

theorem State.releaseRef_only (s : State) (ref : FrameRef) : s.AdmissionOnly (s.releaseRef ref) := by
  have hkeeps := s.releaseRef_keeps ref
  obtain ⟨-, h⟩ | ⟨r, -, ⟨-, h⟩ | ⟨-, h⟩⟩ := s.releaseRef_cases ref <;> rw [h] at hkeeps ⊢
  · exact .refl s
  · exact .put (P := admissionPart) hkeeps
  · refine State.Only.put_send (P := admissionPart) (x := s.adm.returnBlocks r) hkeeps
      (ms := if r.watch then [.watchReturned] else []) ?_
    split <;> simp [Msg.plain]

theorem State.admShadowWrite_only (s : State) (f : AdmissionShadow → AdmissionShadow) :
    s.AdmissionOnly (s.admShadowWrite f) := by
  unfold State.admShadowWrite
  split
  · exact .sent (by simp [Msg.plain])
  · exact State.Only.put_send Admission.Keeps.of_frame (by simp [Msg.plain])

theorem execCounterEntryCreate_only {who : Block} {k : Key} {s t : State}
    (h : execCounterEntryCreate who k s = .next t) : s.AdmissionOnly t := by
  unfold execCounterEntryCreate at h
  split at h <;> rw [next_eq_next] at h <;> subst h
  · rename_i rest htake
    refine (State.Only.net (.of_takeFirst htake)).trans (.put ?_)
    unfold Admission.createCount
    split
    · exact .refl _
    · exact Admission.Keeps.of_frame
  · exact .refl _

theorem execCounterEntryDelete_only {who : Block} {k : Key} {s t : State}
    (h : execCounterEntryDelete who k s = .next t) : s.AdmissionOnly t := by
  unfold execCounterEntryDelete at h
  split at h <;> rw [next_eq_next] at h <;> subst h
  · rename_i rest htake
    exact (State.Only.net (.of_takeFirst htake)).trans (.put Admission.Keeps.of_frame)
  · exact .refl _

/-- What the admission unit's configuration commands make: the shadow active at a swap (R113), or the power-on values at a FULL
restart (R116). -/
inductive State.AdmissionSet (s : State) : Instr → State → Prop
  | swapped (rest : List Msg) (sh : AdmissionShadow) (htake : takeFirst (selSwap .admission) s.net = some ((), rest))
      (hsh : s.adm.shadow = some sh) :
      State.AdmissionSet s .admissionSwap ((s.took rest [.swapDone .admission true]).withAdm (s.adm.swapped sh))
  | restarted (rest : List Msg) (hrest : rest.Sublist s.net) :
      State.AdmissionSet s .admissionFullRestart
        ((s.took rest [.restartDone .admission]).withAdm
          { Admission.powerOn with restarts := s.adm.restarts + 1, nextId := s.adm.nextId })

/-- The admission unit's commands but a refill expiry change the admission unit alone, and its active tables at a swap and at
a FULL restart alone. -/
theorem exec_admission_cases {c : Instr} {s t : State} (hc : c.home = some .admission) (hrefill : c ≠ .refillExpiry)
    (h : exec c s = .next t) : s.AdmissionOnly t ∨ s.AdmissionSet c t := by
  cases c with
  | grantRequest who =>
    have h : execGrantRequest who s = .next t := h
    exact .inl (.of_onMsg (fun _ _ _ => State.grantRequest_only _ _) h)
  | reserveGrantRequest who =>
    have h : execReserveGrantRequest who s = .next t := h
    exact .inl (.of_onMsg (fun _ _ _ => State.reserveGrantRequest_only _ _ _ _) h)
  | refillExpiry => exact absurd rfl hrefill
  | copyAdd place =>
    have h : execCopyAdd place s = .next t := h
    exact .inl (.of_onMsg (fun _ _ _ => State.copyAdd_only _ _) h)
  | referenceRelease frame =>
    have h : execReferenceRelease frame s = .next t := h
    exact .inl (.of_onMsg (fun _ _ _ => State.releaseRef_only _ _) h)
  | releaseWatch =>
    have h : execReleaseWatch s = .next t := h
    refine .inl (.of_onMsg (fun ref rest _ => ?_) h)
    split
    · exact .put (Admission.Keeps.updRecord_le _ ref (fun _ => rfl) (fun _ => rfl) (fun _ => rfl) fun _ => Nat.le_refl _)
    · exact .sent (by simp [Msg.plain])
  | admissionShadowCreate =>
    have h : execAdmissionShadowCreate s = .next t := h
    refine .inl (.of_onMsg (fun _ rest _ => ?_) h)
    split
    · exact .sent (by simp [Msg.plain])
    · exact State.Only.put_send Admission.Keeps.of_frame (by simp [Msg.plain])
  | admissionShadowDiscard =>
    have h : execAdmissionShadowDiscard s = .next t := h
    exact .inl (.of_onMsg (fun _ _ _ => State.Only.put_send Admission.Keeps.of_frame (by simp [Msg.plain])) h)
  | policerWrite =>
    have h : execPolicerWrite s = .next t := h
    exact .inl (.of_onMsg (fun _ _ _ => State.admShadowWrite_only _ _) h)
  | poolWrite =>
    have h : execPoolWrite s = .next t := h
    exact .inl (.of_onMsg (fun _ _ _ => State.admShadowWrite_only _ _) h)
  | admissionEntryRead w e =>
    have h : execAdmissionEntryRead w e s = .next t := h
    exact .inl (.of_onMsg (fun _ _ _ => .sent (by simp)) h)
  | admissionStateRead =>
    have h : execAdmissionStateRead s = .next t := h
    exact .inl (.of_onMsg (fun _ _ _ => .sent (by simp [Msg.plain])) h)
  | admissionCounterRead =>
    have h : execAdmissionCounterRead s = .next t := h
    refine .inl (.of_onMsg (fun a rest _ => ?_) h)
    dsimp only
    split
    · split <;> split
      · exact State.Only.put_send Admission.Keeps.of_frame (by simp [Msg.plain])
      · exact .sent (by simp [Msg.plain])
      · exact State.Only.put_send Admission.Keeps.of_frame (by simp [Msg.plain])
      · exact .sent (by simp [Msg.plain])
    · exact .sent (by simp [Msg.plain])
  | counterEntryCreate who k => exact .inl (execCounterEntryCreate_only h)
  | counterEntryDelete who k => exact .inl (execCounterEntryDelete_only h)
  | admissionSwap =>
    have h : execAdmissionSwap s = .next t := h
    obtain ⟨-, rfl⟩ | ⟨x, rest, htake, rfl⟩ := State.onMsg_cases h
    · exact .inl (.refl t)
    · cases hsh : s.adm.shadow with
      | none =>
        dsimp only
        exact .inl ((State.Only.net (.of_takeFirst htake)).send (by simp [Msg.plain]))
      | some sh =>
        dsimp only
        exact .inr (.swapped rest sh htake hsh)
  | admissionTrafficRestart =>
    have h : execAdmissionTrafficRestart s = .next t := h
    exact .inl (.of_onMsg (fun _ _ _ =>
      State.Only.put_send (Admission.trafficRestart_keeps _) (by simp [Msg.plain])) h)
  | admissionFullRestart =>
    have h : execAdmissionFullRestart s = .next t := h
    obtain ⟨-, rfl⟩ | ⟨x, rest, htake, rfl⟩ := State.onMsg_cases h
    · exact .inl (.refl t)
    · exact .inr (.restarted rest (takeFirst_sublist htake))
  | _ => cases hc

/-! ## The replicator -/

/-- What the replicator's commands keep: its queue grows at no command of its own, each key keeps one stream, and pending
entries come from a reconciliation request, of records `R`. -/
structure Replicator.Keeps (R : DirRecord → Prop) (r q : Replicator) : Prop where
  queue : q.queue.length ≤ r.queue.length
  streams : (r.streams.map (·.key)).Nodup → (q.streams.map (·.key)).Nodup
  pending : ∀ e ∈ q.pending, e ∈ r.pending ∨ ∀ d ∈ e.record, R d

section
variable {R : DirRecord → Prop}

theorem Replicator.Keeps.refl (r : Replicator) : r.Keeps R r := ⟨Nat.le_refl _, id, fun _ he => .inl he⟩

theorem Replicator.Keeps.trans {r q p : Replicator} (h : r.Keeps R q) (h' : q.Keeps R p) : r.Keeps R p where
  queue := h'.queue.trans h.queue
  streams := h'.streams ∘ h.streams
  pending e he := (h'.pending e he).elim (h.pending e) .inr

/-- A change that leaves the queue, the streams' keys and the pending entries. -/
theorem Replicator.Keeps.of_frame {r q : Replicator} (hkeys : q.streams.map (·.key) = r.streams.map (·.key) := by rfl)
    (hqueue : q.queue = r.queue := by rfl) (hpending : q.pending = r.pending := by rfl) : r.Keeps R q where
  queue := (congrArg List.length hqueue).le
  streams h := hkeys ▸ h
  pending _ he := .inl (hpending ▸ he)

theorem Replicator.trafficRestart_keeps (r : Replicator) : r.Keeps R r.trafficRestart where
  queue := Nat.zero_le _
  streams h := by simpa [Replicator.trafficRestart, Function.comp_def] using h
  pending _ he := .inl he

theorem Replicator.Keeps.of_empty {r q : Replicator} (hqueue : q.queue = []) (hstreams : q.streams = [])
    (hpending : q.pending = []) : r.Keeps R q where
  queue := by simp [hqueue]
  streams _ := by simp [hstreams]
  pending := by simp [hpending]

/-- The replicator, as a part of the state. -/
@[reducible] def replicatorPart (R : DirRecord → Prop) : StatePart Replicator where
  get := State.rep
  put := State.withRep
  rel := Replicator.Keeps R
  refl := .refl
  trans := .trans
  put_get _ := rfl
  get_put _ _ := rfl
  put_put _ _ _ _ := rfl
  get_net _ _ := rfl
  net_put _ _ := rfl

/-- `t` is `s` but for the replicator and plain messages. -/
abbrev State.ReplicatorOnly (R : DirRecord → Prop) (s t : State) : Prop := s.Only (replicatorPart R) t

/-- The streams but one key's, with one of that key added. -/
theorem nodup_keys_added {α : Type} {key : α → Key} {l : List α} {x : α} (h : (l.map key).Nodup) :
    (((l.filter fun y => !(key y == key x)) ++ [x]).map key).Nodup := by
  rw [List.map_append, List.nodup_append]
  refine ⟨h.sublist (List.filter_sublist.map _), by simp, fun a ha b hb => ?_⟩
  obtain ⟨y, hy, rfl⟩ := List.mem_map.mp ha
  simp only [List.map_cons, List.map_nil, List.mem_singleton] at hb
  simpa [hb] using (List.mem_filter.mp hy).2

/-- A key's stream put in the place of any it had. -/
theorem Replicator.added_keeps (r : Replicator) (k : Key) (p : OutParams) :
    r.Keeps R
      { r with
        streams := (r.streams.filter fun x => !(x.key == k)) ++
          [{ key := k, params := p, counter := .start, counts := .zero }] } where
  queue := Nat.le_refl _
  streams := nodup_keys_added (key := OutStream.key) (x := { key := k, params := p, counter := .start, counts := .zero })
  pending _ he := .inl he

theorem State.repReconcile_only (s : State) (e : ChangeEntry) : State.ReplicatorOnly R s (s.repReconcile e) := by
  unfold State.repReconcile
  split
  · have hkeeps : s.rep.Keeps R { s.rep with streams := s.rep.streams.filter fun x => !(x.key == e.key) } :=
      ⟨Nat.le_refl _, fun h => h.sublist (List.filter_sublist.map _), fun _ he => .inl he⟩
    exact .put_send hkeeps (by simp [Msg.plain])
  · split
    · exact .put_send (s.rep.added_keeps e.key _) (by simp [Msg.plain])
    · exact .refl s
  · split
    · exact .put (Replicator.Keeps.of_frame (Replicator.upd_keys _ _ _ fun _ => rfl))
    · exact .refl s
  · exact .refl s

theorem State.repStep_only (s : State) (e : ChangeEntry) : State.ReplicatorOnly R s (s.repStep e) := by
  refine (s.repReconcile_only e).trans (.put_send (s := s.repReconcile e) (P := replicatorPart R) ?_ ?_)
  · exact ⟨Nat.le_refl _, id, fun _ he => .inl (List.mem_filter.mp he).1⟩
  · split <;> simp [Msg.plain]

theorem State.takeDeparture_only (s : State) (d : DirDeparture) : State.ReplicatorOnly R s (s.takeDeparture d) := by
  unfold State.takeDeparture
  extract_lets s1
  have h : State.ReplicatorOnly R s s1 := by
    unfold s1
    split
    · exact s.repStep_only _
    · exact .refl s
  refine h.trans ?_
  split
  · exact .put (s := s1) Replicator.Keeps.of_frame
  · exact State.Only.put_send Replicator.Keeps.of_frame (by simp [Msg.plain])

theorem State.takeUnknownDeparture_only (s : State) (d : UnkDeparture) :
    State.ReplicatorOnly R s (s.takeUnknownDeparture d) := by
  unfold State.takeUnknownDeparture
  split
  · exact .refl s
  · exact State.Only.put_send Replicator.Keeps.of_frame (by simp [Msg.plain])

theorem State.repEnd_only (s : State) (j : RepJob) (ref : FrameRef) (placed : Nat) :
    State.ReplicatorOnly R s (s.repEnd j ref placed) :=
  State.Only.put_send Replicator.Keeps.of_frame (by cases j <;> simp [Msg.plain])

theorem State.repEnqueue_only (s : State) (j : RepJob) (ref : FrameRef) (c : Sys2Proof.Class) (marked : Bool)
    (up : List Lane) : State.ReplicatorOnly R s (s.repEnqueue j ref c marked up) := by
  unfold State.repEnqueue
  split
  · exact s.repEnd_only j ref 0
  · exact State.Only.put_send Replicator.Keeps.of_frame (by simp [Msg.plain])

/-- `t` is `s` but for the replicator, once a frame has been written into the blocks that `ref` names. -/
def State.ReplicatorWrites (R : DirRecord → Prop) (s : State) (ref : FrameRef) (t : State) : Prop :=
  ∃ bytes, State.ReplicatorOnly R (s.writeFrame ref bytes) t

/-- A granted departure is written, unless its stream is gone. -/
theorem State.grantedDeparture_cases (s : State) (d : DirDeparture) (p : OutParams) (ref : FrameRef) :
    State.ReplicatorOnly R s (s.grantedDeparture d p ref) ∨ State.ReplicatorWrites R s ref (s.grantedDeparture d p ref) := by
  unfold State.grantedDeparture
  split
  · exact .inl (s.repEnd_only _ ref 0)
  · refine .inr ⟨_, State.Only.trans (.put (s := s.writeFrame ref _) (Replicator.Keeps.of_frame ?_)) (State.repEnqueue_only _ _ _ _ _ _)⟩
    exact Replicator.upd_keys _ _ _ fun _ => rfl

theorem State.repGrantAnswer_cases (s : State) (n : Nat) (r : GrantResult) :
    State.ReplicatorOnly R s (s.repGrantAnswer n r) ∨
      ∃ ref, r = .granted ref ∧ State.ReplicatorWrites R s ref (s.repGrantAnswer n r) := by
  have hlate : State.ReplicatorOnly R s (s.send (lateGrant r)) := .sent fun _ => plain_of_mem_lateGrant
  unfold State.repGrantAnswer
  split
  · split
    · split
      · exact (s.grantedDeparture_cases _ _ _).imp id fun h => ⟨_, rfl, h⟩
      · exact .inr ⟨_, rfl, _, State.repEnqueue_only _ _ _ _ _ _⟩
      · exact .inl (.sent (by simp [Msg.plain]))
      · exact .inl (.put Replicator.Keeps.of_frame)
    · exact .inl hlate
  · exact .inl hlate

theorem plain_of_mem_map_release {r : Option FrameRef} : ∀ m ∈ r.toList.map Msg.release, m.plain = true := by
  simp [Msg.plain]

theorem State.repReserveAnswer_cases (s : State) (n : Nat) (r : Option FrameRef) :
    State.ReplicatorOnly R s (s.repReserveAnswer n r) ∨
      ∃ ref, r = some ref ∧ State.ReplicatorWrites R s ref (s.repReserveAnswer n r) := by
  unfold State.repReserveAnswer
  split
  · split
    · split
      · exact .inr ⟨_, rfl, _, State.Only.trans (.put (s := s.writeFrame _ _) Replicator.Keeps.of_frame) (State.repEnqueue_only _ _ _ _ _ _)⟩
      · exact .inl (State.Only.put_send Replicator.Keeps.of_frame (by simp [Msg.plain]))
    · exact .inl (.sent plain_of_mem_map_release)
  · exact .inl (.sent plain_of_mem_map_release)

theorem State.repLateAnswer_only (s : State) (l : Lane) (n : Nat) (ref : FrameRef) :
    State.ReplicatorOnly R s (s.repLateAnswer l n ref) := by
  obtain ⟨-, h⟩ | ⟨x, -, -, ⟨-, h⟩ | ⟨-, h⟩⟩ := s.repLateAnswer_cases l n ref <;> rw [h]
  · exact .sent (by simp [Msg.plain])
  · exact State.Only.put_send Replicator.Keeps.of_frame (by simp [Msg.plain])
  · exact .put Replicator.Keeps.of_frame

theorem Replicator.countFor_keeps (r : Replicator) (j : RepJob) (f : OutCounts → OutCounts) : r.Keeps R (r.countFor j f) := by
  cases j with
  | directory d p => exact Replicator.Keeps.of_frame (Replicator.upd_keys _ _ _ fun _ => rfl)
  | unknown d l => exact .refl r
  | handoff h => exact Replicator.Keeps.of_frame

theorem State.repEnqueueAnswer_only (s : State) (l : Lane) (n : Nat) (ref : FrameRef) (r : EnqResult) :
    State.ReplicatorOnly R s (s.repEnqueueAnswer l n ref r) := by
  unfold State.repEnqueueAnswer
  split
  · rename_i j own w p _
    split
    · have hcount : s.rep.Keeps R (if r = .placed then s.rep else s.rep.countFor j fun c => c.refuse l) := by
        split
        · exact .refl _
        · exact s.rep.countFor_keeps j _
      extract_lets placed rep rest s1
      have h : State.ReplicatorOnly R s s1 := .put (hcount.trans (Replicator.Keeps.of_frame))
      split
      · exact h.trans (State.repEnd_only _ _ _ _)
      · exact h
    · exact s.repLateAnswer_only l n ref
  · exact s.repLateAnswer_only l n ref

theorem execReplicatorReconciliationRequest_only {s t : State}
    (h : execReplicatorReconciliationRequest s = .next t) : State.ReplicatorOnly s.RecordSent s t := by
  unfold execReplicatorReconciliationRequest at h
  split at h
  · rw [next_eq_next] at h
    exact h ▸ .refl _
  · rename_i q rest htake
    split at h <;> rw [next_eq_next] at h <;> subst h
    · exact .put Replicator.Keeps.of_frame
    · have hpending : ∀ e ∈ q.2.1.filter s.rep.concerns, e ∈ s.rep.pending ∨ ∀ d ∈ e.record, s.RecordSent d :=
        fun e he => .inr (recordSent_of_selReconcile htake e (List.mem_filter.mp he).1)
      refine (State.Only.net (.of_takeFirst htake)).trans (State.Only.send (.put ⟨Nat.le_refl _, id, hpending⟩) ?_)
      split <;> simp [Msg.plain]

theorem execReplicatorReconcileKey_only {s t : State} (h : execReplicatorReconcileKey s = .next t) :
    State.ReplicatorOnly R s t := by
  unfold execReplicatorReconcileKey at h
  split at h
  · rw [next_eq_next] at h
    exact h ▸ .refl _
  · split at h <;> rw [next_eq_next] at h <;> subst h
    · exact .refl _
    · exact s.repStep_only _

/-- A taken entry leaves the queue. -/
theorem State.repBegin_only {s : State} {e : RepEntry} {rest : List RepEntry} (hqueue : s.rep.queue = e :: rest) :
    State.ReplicatorOnly R s (s.repBegin rest) :=
  .put ⟨by simp [hqueue], id, fun _ he => .inl he⟩

theorem execTakeDirectoryDeparture_only {s t : State} (h : execTakeDirectoryDeparture s = .next t) :
    State.ReplicatorOnly R s t := by
  unfold execTakeDirectoryDeparture at h
  split at h
  · rename_i d rest hqueue
    split at h <;> rw [next_eq_next] at h <;> subst h
    · exact (State.repBegin_only hqueue).trans (State.takeDeparture_only _ _)
    · exact .refl _
  · rw [next_eq_next] at h
    exact h ▸ .refl _

theorem execTakeUnknownDeparture_only {s t : State} (h : execTakeUnknownDeparture s = .next t) :
    State.ReplicatorOnly R s t := by
  unfold execTakeUnknownDeparture at h
  split at h
  · rename_i d rest hqueue
    split at h <;> rw [next_eq_next] at h <;> subst h
    · exact (State.repBegin_only hqueue).trans (State.takeUnknownDeparture_only _ _)
    · exact .refl _
  · rw [next_eq_next] at h
    exact h ▸ .refl _

theorem execTakeHandoff_only {s t : State} (h : execTakeHandoff s = .next t) : State.ReplicatorOnly R s t := by
  unfold execTakeHandoff at h
  split at h
  · split at h <;> rw [next_eq_next] at h <;> subst h
    · exact State.Only.put_send Replicator.Keeps.of_frame (by simp [Msg.plain])
    · exact .refl _
  · rw [next_eq_next] at h
    exact h ▸ .refl _

theorem execReplicatorCounterRead_only {s t : State} (h : execReplicatorCounterRead s = .next t) :
    State.ReplicatorOnly R s t := by
  have hclear (u : State) (clear : Bool) (x : Replicator) (a : ReadAnswer) (hx : u.rep.Keeps R x) :
      State.ReplicatorOnly R u ((if clear then u.withRep x else u).send [.readAns .replicator a]) := by
    cases clear
    · exact .sent (by simp [Msg.plain])
    · exact State.Only.put_send hx (by simp [Msg.plain])
  refine .of_onMsg (fun q rest _ => ?_) h
  dsimp only
  split
  · split
    · exact hclear _ _ _ _ (Replicator.Keeps.of_frame)
    · split
      · exact .sent (by simp [Msg.plain])
      · exact hclear _ _ _ _ (Replicator.Keeps.of_frame (Replicator.upd_keys _ _ _ fun _ => rfl))
  · exact hclear _ _ _ _ (Replicator.Keeps.of_frame)

end

theorem plain_of_mem_abandoned {r : Replicator} {x : Msg} (h : x ∈ r.abandoned) : x.plain = true := by
  unfold Replicator.abandoned at h
  split at h
  · obtain rfl := List.mem_singleton.mp h
    rfl
  · obtain rfl := List.mem_singleton.mp h
    rfl
  · cases h

/-- The replicator's commands change the replicator alone; a grant answer may write the frame granted. -/
theorem exec_replicator_cases {c : Instr} {s t : State} (hc : c.home = some .replicator) (h : exec c s = .next t) :
    State.ReplicatorOnly s.RecordSent s t ∨
      ∃ ref rest, s.granted c = some ref ∧ SendsPlain s.net rest ∧
        State.ReplicatorWrites s.RecordSent { s with net := rest } ref t := by
  have habandoned {u : State} : ∀ x ∈ u.rep.abandoned ++ [.restartDone .replicator], x.plain = true :=
    plain_of_mem_append_restartDone fun _ hx => plain_of_mem_abandoned hx
  cases c with
  | replicatorReconciliationRequest => exact .inl (execReplicatorReconciliationRequest_only h)
  | replicatorReconcileKey => exact .inl (execReplicatorReconcileKey_only h)
  | replicatorLinkChange l =>
    have h : execReplicatorLinkChange l s = .next t := h
    exact .inl (.of_onMsg (fun _ _ _ => .put Replicator.Keeps.of_frame) h)
  | takeDirectoryDeparture => exact .inl (execTakeDirectoryDeparture_only h)
  | takeUnknownDeparture => exact .inl (execTakeUnknownDeparture_only h)
  | takeHandoff => exact .inl (execTakeHandoff_only h)
  | replicatorGrantAnswer =>
    have h' : s.onMsg (selGrantAns .replicator) (fun q u => u.repGrantAnswer q.1 q.2) = .next t := h
    obtain ⟨-, rfl⟩ | ⟨⟨n, r⟩, rest, htake, rfl⟩ := State.onMsg_cases h'
    · exact .inl (.refl t)
    · obtain honly | ⟨ref, rfl, hw⟩ := State.repGrantAnswer_cases { s with net := rest } n r
      · exact .inl ((State.Only.net (.of_takeFirst htake)).trans honly)
      · exact .inr ⟨ref, rest, by simp only [State.granted, htake], .of_takeFirst htake, hw⟩
  | replicatorReserveGrantAnswer =>
    have h' : s.onMsg (selReserveAns .replicator) (fun q u => u.repReserveAnswer q.1 q.2) = .next t := h
    obtain ⟨-, rfl⟩ | ⟨⟨n, r⟩, rest, htake, rfl⟩ := State.onMsg_cases h'
    · exact .inl (.refl t)
    · obtain honly | ⟨ref, rfl, hw⟩ := State.repReserveAnswer_cases { s with net := rest } n r
      · exact .inl ((State.Only.net (.of_takeFirst htake)).trans honly)
      · exact .inr ⟨ref, rest, by simp only [State.granted, htake], .of_takeFirst htake, hw⟩
  | replicatorEnqueueAnswer l =>
    have h : execReplicatorEnqueueAnswer l s = .next t := h
    exact .inl (.of_onMsg (fun _ _ _ => State.repEnqueueAnswer_only _ _ _ _ _) h)
  | replicatorCounterRead => exact .inl (execReplicatorCounterRead_only h)
  | replicatorTrafficRestart =>
    have h : execReplicatorTrafficRestart s = .next t := h
    exact .inl (.of_onMsg (fun _ _ _ => State.Only.put_send (Replicator.trafficRestart_keeps _) habandoned) h)
  | replicatorFullRestart =>
    have h : execReplicatorFullRestart s = .next t := h
    exact .inl (.of_onMsg (fun _ _ _ => State.Only.put_send (Replicator.Keeps.of_empty rfl rfl rfl) habandoned) h)
  | _ => cases hc

/-! ## The egress unit -/

/-- The egress unit, as a part of the state. -/
@[reducible] def egressPart : StatePart Egress where
  get := State.egr
  put := State.withEgr
  rel := Egress.Keeps
  refl := .refl
  trans := .trans
  put_get _ := rfl
  get_put _ _ := rfl
  put_put _ _ _ _ := rfl
  get_net _ _ := rfl
  net_put _ _ := rfl

/-- `t` is `s` but for the egress unit and plain messages. -/
abbrev State.EgressOnly (s t : State) : Prop := s.Only egressPart t

/-- One port changed, its limits and its law kept, and messages sent. -/
theorem State.EgressOnly.port_send (s : State) (p : Port) (x : PortEgress) {ms : List Msg}
    (hlimits : x.limits = (s.egr.ports.get p).limits) (hok : (s.egr.ports.get p).Ok → x.Ok)
    (hms : ∀ m ∈ ms, m.plain = true) : s.EgressOnly ((s.withPort p x).send ms) :=
  .put_send (P := egressPart) (x := { s.egr with ports := s.egr.ports.set p x })
    (Egress.Keeps.port p x rfl hlimits hok) hms

/-- One port changed, its limits kept, and its transmitter's choice then. -/
theorem State.EgressOnly.transmit (s : State) (p : Port) (x : PortEgress) {ms : List Msg}
    (hlimits : x.limits = (s.egr.ports.get p).limits) (hready : (s.egr.ports.get p).Ok → x.Ready)
    (hms : ∀ m ∈ ms, m.plain = true) : s.EgressOnly (((s.withPort p x).send ms).transmit p) := by
  obtain ⟨g, ht, hg⟩ := s.transmit_after p x ms hlimits hready
  rw [ht]
  exact State.Only.put_send hg hms

theorem Egress.refusal_eq_none {g : Egress} {e : Enqueue} (h : g.refusal e = none) :
    (g.ports.get e.port).slots < 160 := by
  unfold Egress.refusal at h
  extract_lets x at h
  split at h
  · cases h
  split at h
  · cases h
  split at h
  · cases h
  · rename_i hslots
    exact Nat.lt_of_not_le hslots

theorem State.enqueueRequest_only (s : State) (e : Enqueue) : s.EgressOnly (s.enqueueRequest e) := by
  unfold State.enqueueRequest
  split
  · exact .sent (by simp [Msg.plain])
  · rename_i hnone
    exact State.Only.put_send (.port e.port _ rfl rfl fun h =>
      h.reserve s.egr.nextPlace e (Egress.refusal_eq_none hnone)) (by simp [Msg.plain])

theorem State.copyAddAnswer_only (s : State) (c : CopyReq) (held : Bool) : s.EgressOnly (s.copyAddAnswer c held) := by
  unfold State.copyAddAnswer
  dsimp only
  split
  · exact .sent (by cases held <;> simp [Msg.plain])
  split
  · exact .transmit s c.port _ rfl (fun h => ⟨(PortEgress.slots_dropPlace _ _).trans h.slots, h.linkUp⟩) (by simp [Msg.plain])
  split
  · rename_i hdown
    have hok (h : (s.egr.ports.get c.port).Ok) : ((s.egr.ports.get c.port).dropPlace c.place).Ok :=
      PortEgress.Ready.ok_of_down ⟨(PortEgress.slots_dropPlace _ _).trans h.slots, h.linkUp⟩ hdown
    exact .port_send s c.port _ rfl hok (by simp [Msg.plain])
  · exact .transmit s c.port _ rfl (fun h => ⟨(PortEgress.slots_makePlaced _ _).trans_le h.slots, h.linkUp⟩)
      (by simp [Msg.plain])

theorem execTransmitCompletion_only {p : Port} {tx : Nat} {s t : State}
    (h : execTransmitCompletion p tx s = .next t) : s.EgressOnly t := by
  unfold execTransmitCompletion at h
  dsimp only at h
  split at h
  · rw [next_eq_next] at h
    exact h ▸ .refl _
  · split at h <;> rw [next_eq_next] at h <;> subst h
    · exact .transmit s p _ rfl (fun h => ⟨h.slots, fun htx => absurd rfl htx⟩) (by simp [Msg.plain])
    · exact .refl _

theorem execEgressLinkDown_only {p : Port} {s t : State} (h : execEgressLinkDown p s = .next t) : s.EgressOnly t := by
  unfold execEgressLinkDown at h
  split at h
  · rename_i rest htake
    rw [next_eq_next] at h
    subst h
    refine (State.Only.net (.of_takeFirst htake)).trans
      (State.EgressOnly.port_send { s with net := rest } p _ rfl PortEgress.linkDown_ok fun m hm => ?_)
    simp only [PortEgress.linkDownReleases, List.mem_append, List.mem_map] at hm
    obtain ⟨x, -, rfl⟩ | ⟨x, -, rfl⟩ := hm <;> rfl
  · rw [next_eq_next] at h
    exact h ▸ .refl _

theorem execEgressLinkUp_only {p : Port} {s t : State} (h : execEgressLinkUp p s = .next t) : s.EgressOnly t := by
  unfold execEgressLinkUp at h
  split at h
  · rename_i rest htake
    rw [next_eq_next] at h
    subst h
    have hchoice := State.EgressOnly.transmit { s with net := rest } p { s.egr.ports.get p with link := .up } (ms := [])
      rfl (fun h => ⟨h.slots, fun _ => rfl⟩) (by simp)
    rw [State.send_nil] at hchoice
    exact (State.Only.net (.of_takeFirst htake)).trans hchoice
  · rw [next_eq_next] at h
    exact h ▸ .refl _

/-- What the egress unit's configuration commands make: the shadow active at a swap (R149), or the power-on values at a FULL
restart (R151). -/
inductive State.EgressSet (s : State) : Instr → State → Prop
  | swapped (rest : List Msg) (v : PerPort (PerClass Nat)) (htake : takeFirst (selSwap .egress) s.net = some ((), rest))
      (hv : s.egr.shadow = some v) :
      State.EgressSet s .egressSwap ((s.took rest [.swapDone .egress true]).withEgr (s.egr.swapped v))
  | restarted (rest : List Msg) (hrest : rest.Sublist s.net) :
      State.EgressSet s .egressFullRestart ((s.took rest [.restartDone .egress]).withEgr s.egr.fullRestart)

/-- The egress unit's commands change the egress unit alone, and its active limits at a swap and at a FULL restart alone. -/
theorem exec_egress_cases {c : Instr} {s t : State} (hc : c.home = some .egress) (h : exec c s = .next t) :
    s.EgressOnly t ∨ s.EgressSet c t := by
  cases c with
  | enqueueRequest who =>
    have h : execEnqueueRequest who s = .next t := h
    exact .inl (.of_onMsg (fun _ _ _ => State.enqueueRequest_only _ _) h)
  | copyAddAnswer place =>
    have h : execCopyAddAnswer place s = .next t := h
    exact .inl (.of_onMsg (fun _ _ _ => State.copyAddAnswer_only _ _ _) h)
  | transmitCompletion p tx => exact .inl (execTransmitCompletion_only h)
  | egressLinkDown p => exact .inl (execEgressLinkDown_only h)
  | egressLinkUp p => exact .inl (execEgressLinkUp_only h)
  | egressShadowCreate =>
    have h : execEgressShadowCreate s = .next t := h
    refine .inl (.of_onMsg (fun _ rest _ => ?_) h)
    split
    · exact .sent (by simp [Msg.plain])
    · exact State.Only.put_send Egress.Keeps.of_ports (by simp [Msg.plain])
  | egressShadowDiscard =>
    have h : execEgressShadowDiscard s = .next t := h
    exact .inl (.of_onMsg (fun _ _ _ => State.Only.put_send Egress.Keeps.of_ports (by simp [Msg.plain])) h)
  | queueWrite =>
    have h : execQueueWrite s = .next t := h
    refine .inl (.of_onMsg (fun _ rest _ => ?_) h)
    split
    · exact .sent (by simp [Msg.plain])
    · exact State.Only.put_send Egress.Keeps.of_ports (by simp [Msg.plain])
  | egressEntryRead w p c =>
    have h : execEgressEntryRead w p c s = .next t := h
    exact .inl (.of_onMsg (fun _ _ _ => .sent (by simp)) h)
  | egressSwap =>
    have h : execEgressSwap s = .next t := h
    obtain ⟨-, rfl⟩ | ⟨x, rest, htake, rfl⟩ := State.onMsg_cases h
    · exact .inl (.refl t)
    · cases hv : s.egr.shadow with
      | none =>
        dsimp only
        exact .inl ((State.Only.net (.of_takeFirst htake)).send (by simp [Msg.plain]))
      | some v =>
        dsimp only
        exact .inr (.swapped rest v htake hv)
  | egressCounterRead =>
    have h : execEgressCounterRead s = .next t := h
    refine .inl (.of_onMsg (fun a rest _ => ?_) h)
    dsimp only
    split
    · rename_i p _
      split
      · exact State.EgressOnly.port_send { s with net := rest } p _ rfl (fun h => ⟨h.slots, h.linkUp, h.busy⟩) (by simp [Msg.plain])
      · exact .sent (by simp [Msg.plain])
    · exact .sent (by simp [Msg.plain])
  | egressTrafficRestart =>
    have h : execEgressTrafficRestart s = .next t := h
    exact .inl (.of_onMsg (fun _ _ _ =>
      State.Only.put_send (Egress.trafficRestart_keeps _) (by simp [Msg.plain])) h)
  | egressFullRestart =>
    have h : execEgressFullRestart s = .next t := h
    obtain ⟨-, rfl⟩ | ⟨x, rest, htake, rfl⟩ := State.onMsg_cases h
    · exact .inl (.refl t)
    · exact .inr (.restarted rest (takeFirst_sublist htake))
  | _ => cases hc

end Sys2Proof.Machine
end

section
set_option Elab.async false
/-! What the agent's operations can change: the agent, the replicator's handoff slot, and what they send (R156 to R195). -/

namespace Sys2Proof.Machine

/-! ## The notice list (R210, R211) -/

theorem Agent.NoticesOk.of_eq {a a' : Agent} (h : a'.notices = a.notices) (ha : a.NoticesOk) : a'.NoticesOk :=
  ⟨h ▸ ha.kinds, h ▸ ha.counts⟩

theorem Agent.NoticesOk.of_nil {a : Agent} (h : a.notices = []) : a.NoticesOk :=
  ⟨by simp [h], by simp [h]⟩

/-- A raise enters no kind but its own. -/
theorem mem_kinds_raiseIn {now : Word32} {k k' : NoticeKind} {d : Word32} {es : List NoticeEntry}
    (h : k' ∈ (raiseIn now k d es).map (·.kind)) : k' = k ∨ k' ∈ es.map (·.kind) := by
  induction es with
  | nil => simpa [raiseIn] using h
  | cons e es ih =>
    simp only [raiseIn] at h
    split at h
    · exact .inr (by simpa [NoticeEntry.again] using h)
    · obtain rfl | h := List.mem_cons.mp (by simpa using h : k' ∈ e.kind :: (raiseIn now k d es).map (·.kind))
      · exact .inr (by simp)
      · exact (ih h).imp id fun h => by simp [List.mem_map.mp h]

theorem raiseIn_kinds_nodup (now : Word32) (k : NoticeKind) (d : Word32) {es : List NoticeEntry}
    (h : (es.map (·.kind)).Nodup) : ((raiseIn now k d es).map (·.kind)).Nodup := by
  induction es with
  | nil => simp [raiseIn]
  | cons e es ih =>
    obtain ⟨hnot, hes⟩ := List.nodup_cons.mp (by simpa using h : (e.kind :: es.map (·.kind)).Nodup)
    simp only [raiseIn]
    split
    · simpa [NoticeEntry.again] using h
    · rename_i hne
      refine List.nodup_cons.mpr ⟨fun hmem => ?_, ih hes⟩
      exact (mem_kinds_raiseIn hmem).elim hne hnot

theorem raiseIn_counts (now : Word32) (k : NoticeKind) (d : Word32) {es : List NoticeEntry}
    (h : ∀ n ∈ es, 1 ≤ n.count ∧ n.count ≤ 65535) : ∀ n ∈ raiseIn now k d es, 1 ≤ n.count ∧ n.count ≤ 65535 := by
  induction es with
  | nil => simp [raiseIn]
  | cons e es ih =>
    obtain ⟨he, hes⟩ := List.forall_mem_cons.mp h
    simp only [raiseIn]
    split
    · refine List.forall_mem_cons.mpr ⟨?_, hes⟩
      simp only [NoticeEntry.again, Config.occurrenceMax]
      omega
    · exact List.forall_mem_cons.mpr ⟨he, ih hes⟩

/-- A raise keeps one entry of each kind, counting 1 to 65535 (R210). -/
theorem Agent.raise_noticesOk {a : Agent} (k : NoticeKind) (d : Word32) (h : a.NoticesOk) : (a.raise k d).NoticesOk :=
  ⟨raiseIn_kinds_nodup _ k d h.kinds, raiseIn_counts _ k d h.counts⟩

/-- A handout takes the head entry off the notice list, or changes nothing (R211). -/
theorem Agent.handOut_cases (a : Agent) :
    a.handOut = a ∨ ∃ e es, a.notices = e :: es ∧ a.handed = none ∧ a.params.noticeDestination ≠ .off ∧
      a.handOut = { a with notices := es, handed := some { entry := e, dest := a.params.noticeDestination } } := by
  unfold Agent.handOut
  split
  · exact .inl rfl
  · rename_i e es hnotices hhanded hoff
    exact .inr ⟨e, es, hnotices, hhanded, hoff, rfl⟩
  · exact .inl rfl

theorem Agent.handOut_noticesOk {a : Agent} (h : a.NoticesOk) : a.handOut.NoticesOk := by
  obtain heq | ⟨e, es, hnotices, -, -, heq⟩ := a.handOut_cases <;> rw [heq]
  · exact h
  · have hkinds := h.kinds
    have hcounts := h.counts
    rw [hnotices] at hkinds hcounts
    exact ⟨(List.nodup_cons.mp hkinds).2, fun n hn => hcounts n (List.mem_cons_of_mem e hn)⟩

/-! ## The output and the replies (R165 to R168) -/

/-- What the output's operations can change: the output itself, the replies and notices that wait for it, the reply cache, the
handoff slot, and a reserve grant asked for. -/
def State.Outputs (s t : State) : Prop :=
  ∃ ca re ou ha ho n, SendsPlain s.net n ∧
    t = { s with agt := { s.agt with cache := ca, ready := re, output := ou, handed := ha },
                 rep := { s.rep with handoff := ho }, net := n }

theorem State.Outputs.refl (s : State) : s.Outputs s := ⟨_, _, _, _, _, _, .refl _, rfl⟩

theorem State.Outputs.trans {s t u : State} (h : s.Outputs t) (h' : t.Outputs u) : s.Outputs u := by
  obtain ⟨ca, re, ou, ha, ho, n, hn, rfl⟩ := h
  obtain ⟨ca', re', ou', ha', ho', n', hn', rfl⟩ := h'
  exact ⟨ca', re', ou', ha', ho', n', hn.trans hn', rfl⟩

theorem State.putOut_outputs (s : State) (reply restart toT : Bool) (frame : List Byte) :
    s.Outputs (s.putOut reply restart toT frame) := by
  unfold State.putOut
  split
  · exact ⟨_, _, _, _, _, _, .append (ms := [.reserveGrant .agent 0 (frame ++ crcBytes frame).length])
      (by simp [Msg.plain]), rfl⟩
  · exact ⟨_, _, _, _, _, _, .refl _, rfl⟩

theorem State.outputChoice_outputs (s : State) : s.Outputs s.outputChoice := by
  unfold State.outputChoice
  split
  · exact .refl s
  · have htaken : s.Outputs (s.withAgt { s.agt with ready := none }) := ⟨_, _, _, _, _, _, .refl _, rfl⟩
    exact htaken.trans (State.putOut_outputs _ _ _ _ _)
  · have htaken : s.Outputs (s.withAgt { s.agt with handed := none }) := ⟨_, _, _, _, _, _, .refl _, rfl⟩
    exact htaken.trans (State.putOut_outputs _ _ _ _ _)
  · exact .refl s

theorem State.reply_outputs (s : State) (side : Port) (token : Word32) (number : BitVec 16) (kind : Nat) (st : Status)
    (detail : Nat) (results : List Byte) (restart : Bool) :
    s.Outputs (s.reply side token number kind st detail results restart) := by
  have hbuilt (ca : Option CacheEntry) (re : Option ReadyReply) :
      s.Outputs (s.withAgt { s.agt with cache := ca, ready := re }) := ⟨_, _, _, _, _, _, .refl _, rfl⟩
  exact (hbuilt _ _).trans (State.outputChoice_outputs _)

/-- A request is answered at the stage REPLYING; beyond that the output's state alone changes. -/
theorem State.answer_outputs (s : State) (h : AgentHand) (st : Status) (detail : Nat) (results : List Byte) :
    (s.withAgt (s.agt.setStage .replying)).Outputs (s.answer h st detail results) :=
  State.reply_outputs _ _ _ _ _ _ _ _ _

theorem State.resend_outputs (s : State) (h : AgentHand) (payload : List Byte) : s.Outputs (s.resend h payload) := by
  have hbuilt (re : Option ReadyReply) : s.Outputs (s.withAgt { s.agt with ready := re }) :=
    ⟨_, _, _, _, _, _, .refl _, rfl⟩
  exact (hbuilt _).trans (State.outputChoice_outputs _)

theorem State.answerProgress_outputs (s : State) (q : InProgress) (st : Status) (detail : Nat) :
    (s.withAgt ({ s.agt with progress := none, mode := .session }.startTimer s.clock.millis)).Outputs
      (s.answerProgress q st detail) :=
  State.reply_outputs _ _ _ _ _ _ _ _ _

/-! ## What an operation of the agent keeps -/

/-- A directory record that a well-formed request carries (R13, R182). -/
def FromRequest (r : DirRecord) : Prop := ∃ p rs, parseRequest p = .ok (.putDirectory rs) ∧ r ∈ rs

/-- The agent with the replicator's handoff slot, in which it puts a frame (R168, log 12). -/
def State.withAgentPart (s : State) (x : Agent × Option Handoff) : State :=
  { s with agt := x.1, rep := { s.rep with handoff := x.2 } }

/-- An operation of the agent that sends messages of `P`: it changes the agent and the handoff slot alone, keeps the notice
list and the request queue within their laws, defers only what was on its way, and gets the records of a request in hand from
a request. -/
structure State.AgentOp (s : State) (P : Msg → Prop) (t : State) : Prop where
  frame : t = State.withAgentPart { s with net := t.net } (t.agt, t.rep.handoff)
  sent : ∀ m ∈ t.net, m ∈ s.net ∨ P m
  deferred : ∀ m ∈ t.agt.deferred, m ∈ s.agt.deferred ∨ m ∈ s.net ∨ P m
  notices : s.agt.NoticesOk → t.agt.NoticesOk
  queue : s.agt.queue.length ≤ 4 → t.agt.queue.length ≤ 4
  records : ∀ r ∈ t.agt.handRecords, r ∈ s.agt.handRecords ∨ FromRequest r

/-- A plain message. -/
def IsPlain (m : Msg) : Prop := m.plain = true

theorem State.AgentOp.refl (s : State) {P : Msg → Prop} : s.AgentOp P s :=
  ⟨rfl, fun _ h => .inl h, fun _ h => .inl h, id, id, fun _ h => .inl h⟩

theorem State.AgentOp.trans {s t u : State} {P : Msg → Prop} (h : s.AgentOp P t) (h' : t.AgentOp P u) :
    s.AgentOp P u where
  frame := by
    have h1 := h'.frame
    rw [h.frame] at h1
    exact h1
  sent m hm := (h'.sent m hm).elim (h.sent m) .inr
  deferred m hm := by
    obtain hm | hm | hm := h'.deferred m hm
    · exact h.deferred m hm
    · exact .inr (h.sent m hm)
    · exact .inr (.inr hm)
  notices := h'.notices ∘ h.notices
  queue := h'.queue ∘ h.queue
  records r hr := (h'.records r hr).elim (h.records r) .inr

/-- An operation followed by another, the later one first. -/
theorem State.AgentOp.after {s t u : State} {P : Msg → Prop} (h' : t.AgentOp P u) (h : s.AgentOp P t) : s.AgentOp P u :=
  h.trans h'

theorem State.AgentOp.mono {s t : State} {P Q : Msg → Prop} (hPQ : ∀ m, P m → Q m) (h : s.AgentOp P t) : s.AgentOp Q t :=
  { h with sent := fun m hm => (h.sent m hm).imp id (hPQ m)
           deferred := fun m hm => (h.deferred m hm).imp id (Or.imp id (hPQ m)) }

theorem State.Outputs.agentOp {s t : State} (h : s.Outputs t) : s.AgentOp IsPlain t := by
  obtain ⟨ca, re, ou, ha, ho, n, hn, rfl⟩ := h
  exact ⟨rfl, hn, fun _ h => .inl h, .of_eq rfl, id, fun _ h => .inl h⟩

/-- An operation that changes neither what the agent keeps for other events nor the request in hand. -/
theorem State.agentOp_withAgt (s : State) (a : Agent) {P : Msg → Prop}
    (hnotices : a.notices = s.agt.notices := by rfl) (hqueue : a.queue = s.agt.queue := by rfl)
    (hdeferred : a.deferred = s.agt.deferred := by rfl)
    (hrecords : ∀ r ∈ a.handRecords, r ∈ s.agt.handRecords ∨ FromRequest r := by exact fun _ h => Or.inl h) :
    s.AgentOp P (s.withAgt a) :=
  ⟨rfl, fun _ h => .inl h, fun _ hm => .inl (hdeferred ▸ hm), .of_eq hnotices, fun h => hqueue ▸ h, hrecords⟩

theorem State.agentOp_send (s : State) {ms : List Msg} {P : Msg → Prop} (h : ∀ m ∈ ms, P m) :
    s.AgentOp P (s.send ms) :=
  ⟨rfl, fun _ hm => (List.mem_append.mp hm).imp id (h _), fun _ h => .inl h, id, id, fun _ h => .inl h⟩

/-- A request in hand that does not wait for its shadow has no records to be written. -/
theorem Agent.handRecords_setStage (a : Agent) {g : HandStage} (hg : ∀ r w, g ≠ .creating r w) :
    (a.setStage g).handRecords = [] := by
  unfold Agent.handRecords
  split
  · rename_i h
    simp only [Agent.setStage, Option.map_eq_some_iff] at h
    obtain ⟨x, -, hx⟩ := h
    exact absurd (congrArg AgentHand.stage hx) (hg _ _)
  · rfl

/-- The request in hand goes to a stage other than waiting for its shadow. -/
theorem State.agentOp_setStage (s : State) {g : HandStage} (hg : ∀ r w, g ≠ .creating r w) {P : Msg → Prop} :
    s.AgentOp P (s.withAgt (s.agt.setStage g)) :=
  s.agentOp_withAgt _ rfl rfl rfl (by simp [Agent.handRecords_setStage _ hg])

theorem State.answer_agentOp (s : State) (h : AgentHand) (st : Status) (detail : Nat) (results : List Byte) :
    s.AgentOp IsPlain (s.answer h st detail results) :=
  (s.agentOp_setStage (by simp)).trans (s.answer_outputs h st detail results).agentOp

theorem State.answerProgress_agentOp (s : State) (q : InProgress) (st : Status) (detail : Nat) :
    s.AgentOp IsPlain (s.answerProgress q st detail) :=
  (s.answerProgress_outputs q st detail).agentOp.after (s.agentOp_withAgt _)

/-! ## Requests -/

theorem State.askReads_agentOp (s : State) (r : Req) (bs : List Block) {ms : List Msg} (h : ∀ m ∈ ms, m.plain = true) :
    s.AgentOp IsPlain (s.askReads r bs ms) :=
  (s.agentOp_setStage (by simp)).trans (State.agentOp_send _ h)

theorem State.discardShadow_agentOp (s : State) (why : DiscardWhy) : s.AgentOp IsPlain (s.discardShadow why) :=
  (State.agentOp_send _ (by simp [shadowBlocks, IsPlain, Msg.plain])).after (s.agentOp_withAgt _)

theorem State.endSession_agentOp (s : State) (why : DiscardWhy) : s.AgentOp IsPlain (s.endSession why) :=
  (State.discardShadow_agentOp _ why).after (s.agentOp_withAgt _)

/-- What a request may send: plain messages, and a record write of its own records. -/
def RequestSends (m : Msg) : Prop := m.plain = true ∨ ∃ rs, m = .recordWrite rs ∧ ∀ r ∈ rs, FromRequest r

theorem State.AgentOp.requestSends {s t : State} (h : s.AgentOp IsPlain t) : s.AgentOp RequestSends t :=
  h.mono fun _ => .inl

theorem requestSends_of_mem_writeOf {p : List Byte} {r : Req} (hp : parseRequest p = .ok r) {m : Msg}
    (hm : m ∈ writeOf r) : RequestSends m := by
  cases r <;> simp only [writeOf, List.mem_singleton, List.not_mem_nil] at hm <;> subst hm
  case putDirectory rs => exact .inr ⟨rs, rfl, fun r hr => ⟨p, rs, hp, hr⟩⟩
  all_goals exact .inl rfl

theorem Agent.mem_handRecords_setStage_creating {a : Agent} {q : Req} {w : List Block} {r : DirRecord}
    (h : r ∈ (a.setStage (.creating q w)).handRecords) : ∃ rs, q = .putDirectory rs ∧ r ∈ rs := by
  unfold Agent.handRecords at h
  split at h
  · rename_i rs _ heq
    simp only [Agent.setStage, Option.map_eq_some_iff] at heq
    obtain ⟨x, -, hx⟩ := heq
    have hstage := congrArg AgentHand.stage hx
    simp only [HandStage.creating.injEq] at hstage
    exact ⟨rs, hstage.1, h⟩
  · cases h

theorem State.serveStaging_agentOp (s : State) (h : AgentHand) {p : List Byte} {r : Req} (hp : parseRequest p = .ok r) :
    s.AgentOp RequestSends (s.serveStaging h r) := by
  unfold State.serveStaging
  split
  · exact (s.answer_agentOp _ _ _ _).requestSends
  split
  · refine (State.agentOp_send _ fun m hm => ?_).after (s.agentOp_withAgt _ rfl rfl rfl fun x hx => ?_)
    · obtain ⟨b, -, rfl⟩ := List.mem_map.mp hm
      exact .inl rfl
    · obtain ⟨rs, rfl, hmem⟩ := Agent.mem_handRecords_setStage_creating hx
      exact .inr ⟨p, rs, hp, hmem⟩
  · exact (s.agentOp_setStage (by simp)).trans (State.agentOp_send _ fun m hm => requestSends_of_mem_writeOf hp hm)

theorem plain_of_mem_checkReads : ∀ m ∈ checkReads, m.plain = true := by
  decide

theorem Agent.handRecords_of_none {a : Agent} (h : a.hand = none) : a.handRecords = [] := by
  simp [Agent.handRecords, h]

theorem State.beginCheck_agentOp (s : State) (h : AgentHand) (k : ProgressKind) :
    s.AgentOp IsPlain (s.beginCheck h k) :=
  (State.agentOp_send _ plain_of_mem_checkReads).after
    (s.agentOp_withAgt _ rfl rfl rfl (by simp [Agent.handRecords_of_none]))

theorem State.beginCommit_agentOp (s : State) : s.AgentOp IsPlain s.beginCommit :=
  (State.agentOp_send _ (by simp [IsPlain, Msg.plain])).after
    (s.agentOp_withAgt _ rfl rfl rfl (by simp [Agent.handRecords_of_none]))

theorem State.serveCheck_agentOp (s : State) (h : AgentHand) : s.AgentOp IsPlain (s.serveCheck h) := by
  unfold State.serveCheck
  split
  · exact s.answer_agentOp _ _ _ _
  · exact s.answer_agentOp _ _ _ _
  · exact s.beginCheck_agentOp h .check

theorem State.serveCommit_agentOp (s : State) (h : AgentHand) (d : Word32) : s.AgentOp IsPlain (s.serveCommit h d) := by
  unfold State.serveCommit
  split
  · exact s.answer_agentOp _ _ _ _
  · split
    · exact (State.beginCommit_agentOp _).after (s.agentOp_withAgt _)
    · exact s.answer_agentOp _ _ _ _
  · split
    · exact s.beginCheck_agentOp h .commit
    · exact s.answer_agentOp _ _ _ _

theorem State.serveOpen_agentOp (s : State) (h : AgentHand) : s.AgentOp IsPlain (s.serveOpen h) := by
  unfold State.serveOpen
  split
  · exact (State.answer_agentOp _ _ _ _ _).after (s.agentOp_withAgt _)
  · exact s.answer_agentOp _ _ _ _

theorem State.serveClose_agentOp (s : State) : s.AgentOp IsPlain s.serveClose :=
  (s.agentOp_setStage (by simp)).trans (State.endSession_agentOp _ _)

theorem State.serveAbandon_agentOp (s : State) (h : AgentHand) : s.AgentOp IsPlain (s.serveAbandon h) := by
  unfold State.serveAbandon
  split
  · exact s.answer_agentOp _ _ _ _
  · exact (s.agentOp_setStage (by simp)).trans (State.discardShadow_agentOp _ _)

theorem State.serveRestart_agentOp (s : State) (h : AgentHand) (k : RestartKind) :
    s.AgentOp IsPlain (s.serveRestart h k) := by
  have hrecords : (s.agt.setStage .replying).handRecords = [] := Agent.handRecords_setStage _ (by simp)
  refine (State.reply_outputs _ _ _ _ _ _ _ _ _).agentOp.after (s.agentOp_withAgt _ rfl rfl rfl fun x hx => ?_)
  have hnil : x ∈ (s.agt.setStage .replying).handRecords := hx
  simp [hrecords] at hnil

theorem State.serve_agentOp (s : State) (h : AgentHand) {p : List Byte} {r : Req} (hp : parseRequest p = .ok r) :
    s.AgentOp RequestSends (s.serve h r) := by
  cases r with
  | openSession => exact (s.serveOpen_agentOp h).requestSends
  | closeSession => exact s.serveClose_agentOp.requestSends
  | putDirectory | putPolicers | putPools | putQueues | putDevice | dropKeys | clearBank =>
    exact s.serveStaging_agentOp h hp
  | abandon => exact (s.serveAbandon_agentOp h).requestSends
  | checkShadow => exact (s.serveCheck_agentOp h).requestSends
  | commit d => exact (s.serveCommit_agentOp h d).requestSends
  | restart k => exact (s.serveRestart_agentOp h k).requestSends
  | readDirectory | readPolicer | readPool | readQueue | readDevice | readNext | statsKey | statsPort | statsDevice
  | status => exact (s.askReads_agentOp _ _ (by simp [Msg.plain])).requestSends

theorem State.handleRequest_agentOp (s : State) (h : AgentHand) : s.AgentOp RequestSends (s.handleRequest h) := by
  unfold State.handleRequest
  split
  · exact (s.resend_outputs h _).agentOp.requestSends
  · exact s.agentOp_withAgt _ rfl rfl rfl (by simp [Agent.handRecords_of_none])
  · split
    · exact (s.answer_agentOp _ _ _ _).requestSends
    · rename_i hp
      split
      · exact (s.answer_agentOp _ _ _ _).requestSends
      · exact s.serve_agentOp h hp

/-- What the take of a request can do: nothing, or the head entry, whose row it is, is taken into hand and handled (R155). -/
theorem State.takeRequest_cases {s t : State} {row : RequestRow} (h : s.takeRequest row = .next t) :
    t = s ∨ ∃ e rest, s.agt.queue = e :: rest ∧ requestRow (framePayload e.buf) = row ∧
      s.agt.takesRequest s.clock.millis = true ∧
      t = (s.withAgt (s.agt.begin e rest s.clock.millis)).handleRequest
        { side := e.side, payload := framePayload e.buf, stage := .replying } := by
  unfold State.takeRequest at h
  split at h
  · exact .inl (next_eq_next.mp h)
  · rename_i e rest hqueue
    split at h
    · rename_i htakes
      exact .inr ⟨e, rest, hqueue, htakes.1, htakes.2, next_eq_next.mp h⟩
    · exact .inl (next_eq_next.mp h)

@[simp] theorem Agent.begin_notices (a : Agent) (e : RequestEntry) (r : List RequestEntry) (n : Nat) :
    (a.begin e r n).notices = a.notices := by
  rw [Agent.begin_eq]

@[simp] theorem Agent.begin_deferred (a : Agent) (e : RequestEntry) (r : List RequestEntry) (n : Nat) :
    (a.begin e r n).deferred = a.deferred := by
  rw [Agent.begin_eq]

@[simp] theorem Agent.begin_handRecords (a : Agent) (e : RequestEntry) (r : List RequestEntry) (n : Nat) :
    (a.begin e r n).handRecords = [] := by
  rw [← Agent.begin_setStage, Agent.handRecords_setStage _ (by simp)]

theorem State.takeRequest_agentOp {s t : State} {row : RequestRow} (h : s.takeRequest row = .next t) :
    s.AgentOp RequestSends t := by
  obtain rfl | ⟨e, rest, hqueue, -, -, rfl⟩ := State.takeRequest_cases h
  · exact .refl t
  · refine State.AgentOp.trans ?_ (State.handleRequest_agentOp _ _)
    refine ⟨rfl, fun _ h => .inl h, fun m hm => .inl ?_, .of_eq (Agent.begin_notices _ _ _ _), fun hlen => ?_, ?_⟩
    · simpa using hm
    · simp only [State.withAgt_agt, Agent.begin_queue]
      simp only [hqueue, List.length_cons] at hlen
      omega
    · simp

end Sys2Proof.Machine
end

section
set_option Elab.async false
/-! What the agent's answers, reports, timers and notices can change; and the frame of every command. -/

namespace Sys2Proof.Machine

/-! ## Answers and reports -/

theorem State.outputChoice_agentOp (s : State) : s.AgentOp IsPlain s.outputChoice := s.outputChoice_outputs.agentOp

theorem State.restartEvent_agentOp (s : State) : s.AgentOp IsPlain s.restartEvent := by
  unfold State.restartEvent
  split
  · dsimp only
    refine (State.agentOp_send _ (by simp [firstGroup, IsPlain, Msg.plain])).after ?_
    split
    · exact ⟨rfl, fun _ h => .inl h, fun _ h => .inl h, .of_eq rfl, fun _ => Nat.zero_le 4, fun _ h => .inl h⟩
    · exact ⟨rfl, fun _ h => .inl h, fun _ h => .inl h, fun _ => .of_nil rfl, fun _ => Nat.zero_le 4,
        by simp [Agent.handRecords, Agent.fullPart, Agent.powerOn]⟩
  · exact .refl s

theorem State.freeOutput_agentOp (s : State) (o : OutFrame) : s.AgentOp IsPlain (s.freeOutput o) := by
  refine s.agentOp_withAgt _ rfl rfl rfl fun r hr => ?_
  cases hreply : o.reply <;> simp [hreply, Agent.handRecords] at hr
  exact .inl hr

theorem State.countUnsent_agentOp (s : State) : s.AgentOp IsPlain s.countUnsent := s.agentOp_withAgt _

theorem State.afterOutput_agentOp (s : State) (o : OutFrame) (fire : Bool) :
    s.AgentOp IsPlain (s.afterOutput o fire) := by
  unfold State.afterOutput
  refine (State.outputChoice_agentOp _).after ?_
  split
  · exact s.restartEvent_agentOp
  · exact .refl s

/-- What a shadow's creation may lead the agent to send: plain messages, and a record write of the request in hand. -/
def State.HandSends (s : State) (m : Msg) : Prop :=
  m.plain = true ∨ ∃ rs, m = .recordWrite rs ∧ ∀ r ∈ rs, r ∈ s.agt.handRecords

theorem State.createAnswer_agentOp (s : State) (b : Block) : s.AgentOp s.HandSends (s.createAnswer b) := by
  unfold State.createAnswer
  split
  · rename_i sd p q w hhand
    have hrecords {rs : List DirRecord} (hq : q = .putDirectory rs) : s.agt.handRecords = rs := by
      simp [Agent.handRecords, hhand, hq]
    dsimp only
    split
    · refine (State.agentOp_send _ fun m hm => ?_).after (s.agentOp_setStage (by simp))
      cases q <;> simp only [writeOf, List.mem_singleton, List.not_mem_nil] at hm <;> subst hm
      case putDirectory rs => exact .inr ⟨rs, rfl, fun r hr => hrecords rfl ▸ hr⟩
      all_goals exact .inl rfl
    · refine s.agentOp_withAgt _ rfl rfl rfl fun r hr => ?_
      obtain ⟨rs, hq, hmem⟩ := Agent.mem_handRecords_setStage_creating hr
      exact .inl (hrecords hq ▸ hmem)
  · exact .refl s

theorem State.writeAnswer_agentOp (s : State) (r : WriteResult) : s.AgentOp IsPlain (s.writeAnswer r) := by
  unfold State.writeAnswer
  split
  · dsimp only
    split
    · exact (State.answer_agentOp _ _ _ _ _).after (s.agentOp_withAgt _)
    · exact (State.discardShadow_agentOp _ _).after (s.agentOp_setStage (by simp))
    · exact s.answer_agentOp _ _ _ _
  · exact .refl s

theorem State.discardDone_agentOp (s : State) (why : DiscardWhy) : s.AgentOp IsPlain (s.discardDone why) := by
  unfold State.discardDone
  split
  · exact s.answer_agentOp _ _ _ _
  · exact (State.answer_agentOp _ _ _ _ _).after (s.agentOp_withAgt _)
  · exact s.answer_agentOp _ _ _ _
  · exact .refl s

theorem State.discardAnswer_agentOp (s : State) (b : Block) : s.AgentOp IsPlain (s.discardAnswer b) := by
  unfold State.discardAnswer
  split
  · exact .refl s
  · dsimp only
    split
    · exact (State.discardDone_agentOp _ _).after (s.agentOp_withAgt _)
    · exact s.agentOp_withAgt _

theorem State.readsDone_agentOp (s : State) (h : AgentHand) (r : Req) (got : List (Block × ReadAnswer)) :
    s.AgentOp IsPlain (s.readsDone h r got) := by
  cases r with
  | statsKey | statsPort | status => exact s.answer_agentOp h _ _ _
  | statsDevice clear =>
    refine (State.answer_agentOp _ _ _ _ _).after ?_
    split
    · exact s.agentOp_withAgt _
    · exact .refl s
  | _ =>
    cases got with
    | nil => exact .refl s
    | cons x xs => exact s.answer_agentOp h _ _ _

theorem State.readAnswer_agentOp (s : State) (b : Block) (a : ReadAnswer) : s.AgentOp IsPlain (s.readAnswer b a) := by
  unfold State.readAnswer
  split
  · dsimp only
    split
    · exact (State.agentOp_send _ (by simp [IsPlain, Msg.plain])).after (s.agentOp_setStage (by simp))
    · exact (State.agentOp_send _ (by simp [IsPlain, Msg.plain])).after (s.agentOp_setStage (by simp))
    · exact (State.agentOp_send _ (by simp [IsPlain, Msg.plain])).after (s.agentOp_setStage (by simp))
    · exact s.answer_agentOp _ _ _ _
    · split
      · exact s.readsDone_agentOp _ _ _
      · exact s.agentOp_setStage (by simp)
  · exact .refl s

theorem State.checkDone_agentOp (s : State) (w : CheckWork) : s.AgentOp IsPlain (s.checkDone w) := by
  unfold State.checkDone
  extract_lets a s1 b s2
  have h1 : s.AgentOp IsPlain s1 := s.agentOp_withAgt _
  refine h1.trans ?_
  split
  · exact s1.answerProgress_agentOp _ _ _
  · have h2 : s1.AgentOp IsPlain s2 := s1.agentOp_withAgt _
    refine h2.trans ?_
    split
    · exact s2.beginCommit_agentOp
    · exact s2.answerProgress_agentOp _ _ _
  · exact .refl s1

theorem CheckWork.plain_of_mem_addRecords (w : CheckWork) (rs : List DirRecord) :
    ∀ m ∈ (w.addRecords rs).2, m.plain = true := by
  intro m hm
  simp only [CheckWork.addRecords, List.mem_append, List.mem_map] at hm
  obtain hm | ⟨i, -, rfl⟩ := hm
  · split at hm
    · obtain rfl := List.mem_singleton.mp hm
      rfl
    · cases hm
  · rfl

/-- The reads that a check sends once an answer has been entered (R188). -/
def CheckWork.nextReads (w : CheckWork) (r : CheckRead) (a : ReadAnswer) : List Msg :=
  match a with
  | .records rs => (CheckWork.addRecords { w with waiting := w.waiting.erase r } rs).2
  | _ => []

theorem CheckWork.plain_of_mem_nextReads (w : CheckWork) (r : CheckRead) (a : ReadAnswer) :
    ∀ m ∈ w.nextReads r a, m.plain = true := by
  unfold CheckWork.nextReads
  split
  · exact CheckWork.plain_of_mem_addRecords _ _
  · simp

/-- An answer to a check's read is entered and the next reads are sent; the last answer completes the check (R188, R190). -/
theorem State.checkAnswer_of_check {s : State} {w : CheckWork} (h : s.agt.check = some w) (r : CheckRead)
    (a : ReadAnswer) :
    s.checkAnswer r a =
      let t := (s.withAgt { s.agt with check := some (w.entered r a) }).send (w.nextReads r a)
      if (w.entered r a).waiting.isEmpty then t.checkDone (w.entered r a) else t := by
  simp only [State.checkAnswer, h]
  cases a <;> rfl

theorem State.checkAnswer_of_none {s : State} (h : s.agt.check = none) (r : CheckRead) (a : ReadAnswer) :
    s.checkAnswer r a = s := by
  simp only [State.checkAnswer, h]

theorem State.checkAnswer_agentOp (s : State) (r : CheckRead) (a : ReadAnswer) :
    s.AgentOp IsPlain (s.checkAnswer r a) := by
  cases hw : s.agt.check with
  | none =>
    rw [State.checkAnswer_of_none hw]
    exact .refl s
  | some w =>
    have hsent : s.AgentOp IsPlain
        ((s.withAgt { s.agt with check := some (w.entered r a) }).send (w.nextReads r a)) :=
      (State.agentOp_send _ (w.plain_of_mem_nextReads r a)).after (s.agentOp_withAgt _)
    rw [State.checkAnswer_of_check hw]
    dsimp only
    split
    · exact hsent.trans (State.checkDone_agentOp _ _)
    · exact hsent

/-- What the answer to the read of the preferred lane leads the agent to send: the three swaps. -/
def IsSwap (m : Msg) : Prop := ∃ b, m = .swap b

theorem State.laneAnswer_agentOp (s : State) (a : ReadAnswer) :
    s.AgentOp (fun m => s.agt.commit.isSome = true ∧ IsSwap m) (s.laneAnswer a) := by
  unfold State.laneAnswer
  split
  · rename_i w l hcommit
    refine (State.agentOp_send _ fun m hm => ?_).after (s.agentOp_withAgt _)
    obtain ⟨b, -, rfl⟩ := List.mem_map.mp hm
    exact ⟨by simp [hcommit], b, rfl⟩
  · exact .refl s

theorem State.commitReport_agentOp (s : State) (w : CommitWork) : s.AgentOp IsPlain (s.commitReport w) := by
  unfold State.commitReport
  split
  · split
    · exact (State.answerProgress_agentOp _ _ _ _).after (s.agentOp_withAgt _)
    · exact s.agentOp_withAgt _
  · exact s.agentOp_withAgt _

/-- What the swap report leads the agent to send: plain messages, and the reconciliation requests of its change list. -/
def ReportSends (r : Option SwapReport) (m : Msg) : Prop :=
  m.plain = true ∨ ∃ x b g l, r = some x ∧ m = .reconcile b g x.changes l

theorem State.swapReport_agentOp (s : State) (r : Option SwapReport) : s.AgentOp (ReportSends r) (s.swapReport r) := by
  unfold State.swapReport
  split
  · rename_i w x hcommit
    refine ((State.commitReport_agentOp _ _).mono fun _ => .inl).after
      ((State.agentOp_send _ ?_).after (s.agentOp_withAgt _))
    simp only [List.forall_mem_cons]
    exact ⟨.inr ⟨x, _, _, _, rfl, rfl⟩, .inr ⟨x, _, _, _, rfl, rfl⟩, by simp⟩
  · exact .refl s

theorem State.swapDone_agentOp (s : State) (b : Block) (ok : Bool) : s.AgentOp IsPlain (s.swapDone b ok) := by
  unfold State.swapDone
  split
  · exact s.commitReport_agentOp _
  · exact .refl s

theorem State.reconcileDone_agentOp (s : State) (b : Block) : s.AgentOp IsPlain (s.reconcileDone b) := by
  unfold State.reconcileDone
  split
  · exact s.commitReport_agentOp _
  · exact .refl s

theorem State.restartReport_agentOp (s : State) (b : Block) : s.AgentOp IsPlain (s.restartReport b) := by
  unfold State.restartReport
  split
  · split
    · exact (State.agentOp_send _ (by simp [IsPlain, Msg.plain])).after (s.agentOp_withAgt _)
    · exact s.agentOp_withAgt _
  · split
    · unfold State.restartEnd
      split
      · exact s.agentOp_withAgt _
      · exact s.agentOp_withAgt _
    · exact s.agentOp_withAgt _
  · exact .refl s

theorem State.requestPlacement_agentOp (s : State) (n : Nat) (e : RequestEntry) :
    s.AgentOp IsPlain (s.requestPlacement n e) := by
  unfold State.requestPlacement
  refine (State.agentOp_send _ (by simp [IsPlain, Msg.plain])).after ?_
  unfold Agent.place
  split
  · rename_i hroom
    refine ⟨rfl, fun _ h => .inl h, fun _ h => .inl h, .of_eq rfl, fun _ => ?_, fun _ h => .inl h⟩
    simpa using hroom
  · exact .refl s

/-! ## The agent's commands -/

/-- An event of a message that runs an operation of the agent. -/
theorem State.agentOp_of_onMsg {α : Type} {s t : State} {sel : Msg → Option α} {k : α → State → State}
    {P : Msg → Prop} (hk : ∀ a rest, takeFirst sel s.net = some (a, rest) →
      State.AgentOp { s with net := rest } P (k a { s with net := rest })) (h : s.onMsg sel k = .next t) :
    s.AgentOp P t := by
  obtain ⟨-, rfl⟩ | ⟨a, rest, htake, rfl⟩ := State.onMsg_cases h
  · exact .refl t
  · have htaken : s.AgentOp P { s with net := rest } :=
      ⟨rfl, fun _ hm => .inl ((takeFirst_sublist htake).subset hm), fun _ h => .inl h, id, id, fun _ h => .inl h⟩
    exact htaken.trans (hk a rest htake)

/-- An event on the agent's state that runs an operation of the agent; `P` may speak of what was taken. -/
theorem State.agentOp_of_agentEvent {α : Type} {s t : State} {sel : Msg → Option α} {k : α → State → State}
    {P : Msg → Prop} (hk : ∀ a u, (∃ m ∈ s.net ++ s.agt.deferred, sel m = some a) → u.agt.commit = s.agt.commit →
      State.AgentOp u P (k a u)) (h : s.agentEvent sel k = .next t) : s.AgentOp P t := by
  have hpicked {n rest : List Msg} {a : α} (hn : ∀ m ∈ n, m ∈ s.net ++ s.agt.deferred)
      (htake : takeFirst sel n = some (a, rest)) : ∃ m ∈ s.net ++ s.agt.deferred, sel m = some a := by
    obtain ⟨pre, m, post, rfl, -, hm, -⟩ := takeFirst_split htake
    exact ⟨m, hn m (by simp), hm⟩
  unfold State.agentEvent at h
  split at h
  · split at h
    · rw [next_eq_next] at h
      exact h ▸ .refl _
    · rename_i m rest htake
      rw [next_eq_next] at h
      subst h
      obtain ⟨pre, m', post, hnet, -, hsel, rfl⟩ := takeFirst_split htake
      obtain ⟨a, -, rfl⟩ := Option.map_eq_some_iff.mp hsel
      refine ⟨rfl, fun x hx => .inl ?_, fun x hx => ?_, .of_eq rfl, id, fun _ h => .inl h⟩
      · exact (takeFirst_sublist htake).subset hx
      · obtain hx | hx := List.mem_append.mp hx
        · exact .inl hx
        · obtain rfl := List.mem_singleton.mp hx
          exact .inr (.inl (by simp [hnet]))
  · split at h
    · rename_i a rest htake
      rw [next_eq_next] at h
      subst h
      have htaken : s.AgentOp P (s.withAgt { s.agt with deferred := rest }) :=
        ⟨rfl, fun _ h => .inl h, fun _ hm => .inl ((takeFirst_sublist htake).subset hm), .of_eq rfl, id, fun _ h => .inl h⟩
      exact htaken.trans (hk a _ (hpicked (by simp +contextual) htake) rfl)
    · exact State.agentOp_of_onMsg (fun a rest htake => hk a _ (hpicked (by simp +contextual) htake) rfl) h

/-- What the agent's command `c` may send: a swap for the answer to the preferred lane's read, a record write with the records
of a request, a reconciliation with the change list of a report, and plain messages. -/
def State.MaySend (s : State) (c : Instr) : Msg → Prop
  | .swap _ => c = .preferredLaneAnswer ∧ s.agt.commit.isSome = true
  | .recordWrite rs => ∀ r ∈ rs, r ∈ s.agt.handRecords ∨ FromRequest r
  | .swapReport (some _) => False
  | .reconcile _ _ cs _ => ∃ r, Msg.swapReport (some r) ∈ s.net ++ s.agt.deferred ∧ r.changes = cs
  | _ => True

theorem State.maySend_of_plain (s : State) (c : Instr) (m : Msg) (h : IsPlain m) : s.MaySend c m := by
  unfold State.MaySend
  split <;> first | exact trivial | cases h

theorem State.maySend_of_requestSends (s : State) (c : Instr) (m : Msg) (h : RequestSends m) : s.MaySend c m := by
  obtain h | ⟨rs, rfl, hrs⟩ := h
  · exact s.maySend_of_plain c m h
  · exact fun r hr => .inr (hrs r hr)

/-- The agent's commands whose event is the answer to a frame on its output (R167, R168). -/
def answersOutput : Instr → Bool
  | .agentReserveGrantAnswer => true
  | .agentEnqueueAnswer => true
  | .handoffAnswer => true
  | _ => false

/-- The commands that take a request run its take (R155). -/
theorem exec_eq_takeRequest (row : RequestRow) (s : State) : exec row.instr s = s.takeRequest row := by
  cases row <;> rfl

theorem exec_request_agentOp (row : RequestRow) {s t : State} (h : exec row.instr s = .next t) :
    s.AgentOp (s.MaySend row.instr) t :=
  (State.takeRequest_agentOp (exec_eq_takeRequest row s ▸ h)).mono (s.maySend_of_requestSends _)

theorem execSessionTimerExpiry_agentOp {s t : State} (h : execSessionTimerExpiry s = .next t) :
    s.AgentOp IsPlain t := by
  unfold execSessionTimerExpiry at h
  split at h
  · split at h <;> rw [next_eq_next] at h <;> subst h
    · exact s.agentOp_withAgt _
    · refine (State.endSession_agentOp _ _).after ?_
      exact ⟨rfl, fun _ h => .inl h, fun _ h => .inl h, Agent.raise_noticesOk _ _, id, fun _ h => .inl h⟩
  · rw [next_eq_next] at h
    exact h ▸ .refl _

theorem execPacingExpiry_agentOp {s t : State} (h : execPacingExpiry s = .next t) : s.AgentOp IsPlain t := by
  unfold execPacingExpiry at h
  split at h <;> rw [next_eq_next] at h <;> subst h
  · refine (State.outputChoice_agentOp _).after ?_
    generalize hb : ({ s.agt with pacing := s.agt.pacing + s.agt.params.noticeInterval } : Agent) = b
    have hnotices : s.agt.NoticesOk → b.handOut.NoticesOk := fun h => Agent.handOut_noticesOk (.of_eq (by rw [← hb]) h)
    refine ⟨rfl, fun _ h => .inl h, fun m hm => .inl ?_, hnotices, fun hlen => ?_, fun r hr => .inl ?_⟩ <;>
      obtain heq | ⟨e, es, -, -, -, heq⟩ := b.handOut_cases <;> simp_all [State.withAgt, Agent.handRecords, ← hb]
  · exact .refl _

/-- The agent's commands are operations of the agent, but for the answers to the frame on its output and the time count. -/
theorem exec_agentOp {c : Instr} {s t : State} (hc : c.home = some .agent) (hout : answersOutput c = false)
    (htick : c ≠ .timeCountTick) (h : exec c s = .next t) : s.AgentOp (s.MaySend c) t := by
  have hplain {u : State} (h : s.AgentOp IsPlain u) : s.AgentOp (s.MaySend c) u := h.mono (s.maySend_of_plain c)
  cases c with
  | timeCountTick => exact absurd rfl htick
  | agentReserveGrantAnswer | agentEnqueueAnswer | handoffAnswer => cases hout
  | requestPlacement =>
    have h : execRequestPlacement s = .next t := h
    exact hplain (State.agentOp_of_onMsg (fun _ _ _ => State.requestPlacement_agentOp _ _ _) h)
  | unknownKindRequest => exact exec_request_agentOp .unknownKind h
  | openSession => exact exec_request_agentOp .openSession h
  | closeSession => exact exec_request_agentOp .closeSession h
  | putDirectory => exact exec_request_agentOp .putDirectory h
  | putPolicers => exact exec_request_agentOp .putPolicers h
  | putPools => exact exec_request_agentOp .putPools h
  | putQueues => exact exec_request_agentOp .putQueues h
  | putDevice => exact exec_request_agentOp .putDevice h
  | dropKeys => exact exec_request_agentOp .dropKeys h
  | clearBank => exact exec_request_agentOp .clearBank h
  | abandon => exact exec_request_agentOp .abandon h
  | checkShadow => exact exec_request_agentOp .checkShadow h
  | commit => exact exec_request_agentOp .commit h
  | readDirectory => exact exec_request_agentOp .readDirectory h
  | readPolicers => exact exec_request_agentOp .readPolicers h
  | readPools => exact exec_request_agentOp .readPools h
  | readQueues => exact exec_request_agentOp .readQueues h
  | readDevice => exact exec_request_agentOp .readDevice h
  | readNext => exact exec_request_agentOp .readNext h
  | readStatsKey => exact exec_request_agentOp .readStatsKey h
  | readStatsPort => exact exec_request_agentOp .readStatsPort h
  | readStatsDevice => exact exec_request_agentOp .readStatsDevice h
  | status => exact exec_request_agentOp .status h
  | restartTraffic => exact exec_request_agentOp .restartTraffic h
  | restartFull => exact exec_request_agentOp .restartFull h
  | shadowCreateAnswer b =>
    have h : execShadowCreateAnswer b s = .next t := h
    refine State.agentOp_of_onMsg (fun _ rest _ => (State.createAnswer_agentOp _ b).mono fun m hm => ?_) h
    obtain hm | ⟨rs, rfl, hrs⟩ := hm
    · exact s.maySend_of_plain _ m hm
    · exact fun r hr => .inl (hrs r hr)
  | shadowWriteAnswer b =>
    have h : execShadowWriteAnswer b s = .next t := h
    exact hplain (State.agentOp_of_onMsg (fun _ _ _ => State.writeAnswer_agentOp _ _) h)
  | shadowDiscardAnswer b =>
    have h : execShadowDiscardAnswer b s = .next t := h
    exact hplain (State.agentOp_of_onMsg (fun _ _ _ => State.discardAnswer_agentOp _ _) h)
  | ownerReadAnswer b =>
    have h : execOwnerReadAnswer b s = .next t := h
    exact hplain (State.agentOp_of_onMsg (fun _ _ _ => State.readAnswer_agentOp _ _ _) h)
  | checkReadAnswer r =>
    have h : execCheckReadAnswer r s = .next t := h
    exact hplain (State.agentOp_of_agentEvent (fun _ u _ _ => u.checkAnswer_agentOp _ _) h)
  | preferredLaneAnswer =>
    have h : execPreferredLaneAnswer s = .next t := h
    refine State.agentOp_of_agentEvent (fun _ u _ hu => (u.laneAnswer_agentOp _).mono fun m hm => ?_) h
    obtain ⟨hcommit, b, rfl⟩ := hm
    exact ⟨rfl, hu ▸ hcommit⟩
  | swapReport =>
    have h : execSwapReport s = .next t := h
    refine State.agentOp_of_agentEvent (fun r u hr _ => (u.swapReport_agentOp r).mono fun m hm => ?_) h
    obtain hm | ⟨x, b, g, l, rfl, rfl⟩ := hm
    · exact s.maySend_of_plain _ m hm
    · obtain ⟨m', hm', hsel⟩ := hr
      cases m' <;> simp only [selSwapReport, Option.some.injEq, reduceCtorEq] at hsel
      subst hsel
      exact ⟨x, hm', rfl⟩
  | swapDone b =>
    have h : execSwapDone b s = .next t := h
    exact hplain (State.agentOp_of_agentEvent (fun _ u _ _ => u.swapDone_agentOp _ _) h)
  | reconciliationDone b =>
    have h : execReconciliationDone b s = .next t := h
    exact hplain (State.agentOp_of_agentEvent (fun _ u _ _ => u.reconcileDone_agentOp _) h)
  | watchReturned =>
    have h : execWatchReturned s = .next t := h
    exact hplain (State.agentOp_of_agentEvent (fun _ u _ _ => u.restartEvent_agentOp) h)
  | restartDone b =>
    have h : execRestartDone b s = .next t := h
    exact hplain (State.agentOp_of_agentEvent (fun _ u _ _ => u.restartReport_agentOp _) h)
  | sessionTimerExpiry => exact hplain (execSessionTimerExpiry_agentOp h)
  | noticeRaise kind detail =>
    have h : execNoticeRaise kind detail s = .next t := h
    refine hplain (State.agentOp_of_onMsg (fun _ _ _ => ?_) h)
    exact ⟨rfl, fun _ h => .inl h, fun _ h => .inl h, Agent.raise_noticesOk _ _, id, fun _ h => .inl h⟩
  | pacingExpiry => exact hplain (execPacingExpiry_agentOp h)
  | _ => cases hc

end Sys2Proof.Machine
end

section
set_option Elab.async false
/-! The answers to the frame on the agent's output, and the frame of every command (R167, R168, R175). -/

namespace Sys2Proof.Machine

/-! ## The answers to the frame on the output -/

/-- A reserve grant's answer is an operation of the agent, once the frame granted has been written. -/
theorem State.agentReserveAnswer_cases (s : State) (r : Option FrameRef) :
    s.AgentOp IsPlain (s.agentReserveAnswer r) ∨
      ∃ ref bytes, r = some ref ∧ (s.writeFrame ref bytes).AgentOp IsPlain (s.agentReserveAnswer r) := by
  unfold State.agentReserveAnswer
  split
  · dsimp only
    split
    · exact .inl ((State.afterOutput_agentOp _ _ _).after ((State.freeOutput_agentOp _ _).after s.countUnsent_agentOp))
    · rename_i bytes _ _ ref
      refine .inr ⟨ref, bytes, rfl, (State.agentOp_send _ ?_).after (State.agentOp_withAgt _ _)⟩
      simp [IsPlain, Msg.plain]
  · exact .inl (s.agentOp_send plain_of_mem_map_release)

/-- The answer to the output's enqueue is an operation of the agent, unless the RESTART's own reply is refused: the releases
of its frame are then taken first (log 28). -/
theorem State.agentEnqueueAnswer_cases (s : State) (ref : FrameRef) (r : EnqResult) :
    s.AgentOp IsPlain (s.agentEnqueueAnswer ref r) ∨
      ∃ o, s.agt.output = some o ∧ o.restart = true ∧ r ≠ .placed ∧
        ((s.send [.release ref]).takeReleases ref).AgentOp IsPlain (s.agentEnqueueAnswer ref r) := by
  have hrelease : s.AgentOp IsPlain (s.send [.release ref]) := s.agentOp_send (by simp [IsPlain, Msg.plain])
  unfold State.agentEnqueueAnswer
  split
  · rename_i rp rs bytes own hout
    dsimp only
    split
    · refine .inl ((State.afterOutput_agentOp _ _ _).after ((State.freeOutput_agentOp _ _).after (s.agentOp_send ?_)))
      cases rs <;> simp [IsPlain, Msg.plain]
    · rename_i hplaced
      cases rs with
      | false =>
        exact .inl ((State.afterOutput_agentOp _ _ _).after ((State.freeOutput_agentOp _ _).after
          ((State.countUnsent_agentOp _).after hrelease)))
      | true =>
        exact .inr ⟨_, hout, rfl, hplaced, (State.afterOutput_agentOp _ _ _).after
          ((State.freeOutput_agentOp _ _).after (State.countUnsent_agentOp _))⟩
  · exact .inl hrelease

/-- The answer to the handoff is an operation of the agent, unless no copy of the RESTART's own reply was placed: the releases
of its frame are then taken first (log 28). -/
theorem State.handoffAnswer_cases (s : State) (r : HandoffResult) :
    s.AgentOp IsPlain (s.handoffAnswer r) ∨
      ∃ o ref, s.agt.output = some o ∧ o.restart = true ∧ r = .sent ref 0 ∧
        (s.takeReleases ref).AgentOp IsPlain (s.handoffAnswer r) := by
  unfold State.handoffAnswer
  split
  · rename_i rp rs hout
    dsimp only
    split
    · refine .inl ((State.afterOutput_agentOp _ _ _).after ((State.freeOutput_agentOp _ _).after (s.agentOp_send ?_)))
      cases rs <;> simp [IsPlain, Msg.plain]
    · cases rs with
      | false => exact .inl ((State.afterOutput_agentOp _ _ _).after (State.freeOutput_agentOp _ _))
      | true =>
        exact .inr ⟨_, _, hout, rfl, rfl, (State.afterOutput_agentOp _ _ _).after (State.freeOutput_agentOp _ _)⟩
    · exact .inl ((State.afterOutput_agentOp _ _ _).after (State.freeOutput_agentOp _ _))
    · exact .inl ((State.afterOutput_agentOp _ _ _).after (State.freeOutput_agentOp _ _))
  · exact .inl (.refl s)

/-- What stands before an operation of the agent at an answer to the frame on its output: the message taken, the granted frame
written, or the releases of the RESTART's own reply taken. -/
inductive State.OutputPrelude (s : State) (c : Instr) : State → Prop
  | taken (rest : List Msg) (h : rest.Sublist s.net) : State.OutputPrelude s c { s with net := rest }
  | written (rest : List Msg) (ref : FrameRef) (bytes : List Byte) (h : rest.Sublist s.net)
      (hgranted : s.granted c = some ref) : State.OutputPrelude s c (State.writeFrame { s with net := rest } ref bytes)
  | refused (rest : List Msg) (o : OutFrame) (ref : FrameRef) (r : EnqResult) (hc : c = .agentEnqueueAnswer)
      (hout : s.agt.output = some o) (hrestart : o.restart = true)
      (htake : takeFirst selOutputAns s.net = some ((ref, r), rest)) (hr : r ≠ .placed) :
      State.OutputPrelude s c ((s.took rest [.release ref]).takeReleases ref)
  | unplaced (rest : List Msg) (o : OutFrame) (ref : FrameRef) (hc : c = .handoffAnswer)
      (hout : s.agt.output = some o) (hrestart : o.restart = true)
      (htake : takeFirst selHandoffAns s.net = some (.sent ref 0, rest)) :
      State.OutputPrelude s c ((s.took rest []).takeReleases ref)

/-- The prelude changes the admission unit and the messages alone, and sends nothing but plain messages. -/
theorem State.OutputPrelude.frame {s u : State} {c : Instr} (h : s.OutputPrelude c u) : s.AdmissionOnly u := by
  have hreleases {n : List Msg} (ref : FrameRef) (hn : SendsPlain s.net n) :
      s.AdmissionOnly (State.takeReleases { s with net := n } ref) := by
    obtain ⟨ht, ws, hws, hw⟩ := State.takeReleases_frame { s with net := n } ref
    refine ⟨(State.takeReleases { s with net := n } ref).adm, (State.takeReleases { s with net := n } ref).net, ht,
      hn.trans ?_, State.takeReleases_keeps { s with net := n } ref⟩
    rw [hws]
    exact (SendsPlain.of_sublist List.filter_sublist).trans (.append fun m hm => hw m hm ▸ rfl)
  cases h with
  | taken rest h => exact .net (.of_sublist h)
  | written rest ref bytes h =>
    exact (State.Only.net (.of_sublist h)).trans (.put (State.writeFrame_keeps { s with net := rest } ref bytes))
  | refused rest o ref r _ _ _ htake =>
    exact hreleases ref ((SendsPlain.of_takeFirst htake).trans (.append (by simp [Msg.plain])))
  | unplaced rest o ref _ _ _ htake =>
    exact hreleases ref ((SendsPlain.of_takeFirst htake).trans (.append (by simp)))

/-- An answer to the frame on the agent's output: its prelude, then an operation of the agent. -/
theorem exec_answersOutput_cases {c : Instr} {s t : State} (hc : answersOutput c = true) (h : exec c s = .next t) :
    ∃ u, s.OutputPrelude c u ∧ u.AgentOp IsPlain t := by
  have hnone : s.OutputPrelude c s := .taken s.net (.refl _)
  cases c with
  | agentReserveGrantAnswer =>
    have h' : s.onMsg (selReserveAns .agent) (fun q u => u.agentReserveAnswer q.2) = .next t := h
    obtain ⟨-, rfl⟩ | ⟨⟨n, r⟩, rest, htake, rfl⟩ := State.onMsg_cases h'
    · exact ⟨t, hnone, .refl t⟩
    · obtain hop | ⟨ref, bytes, rfl, hop⟩ := State.agentReserveAnswer_cases { s with net := rest } r
      · exact ⟨_, .taken rest (takeFirst_sublist htake), hop⟩
      · exact ⟨_, .written rest ref bytes (takeFirst_sublist htake) (by simp only [State.granted, htake]), hop⟩
  | agentEnqueueAnswer =>
    have h' : s.onMsg selOutputAns (fun q u => u.agentEnqueueAnswer q.1 q.2) = .next t := h
    obtain ⟨-, rfl⟩ | ⟨⟨ref, r⟩, rest, htake, rfl⟩ := State.onMsg_cases h'
    · exact ⟨t, hnone, .refl t⟩
    · obtain hop | ⟨o, hout, hrestart, hr, hop⟩ := State.agentEnqueueAnswer_cases { s with net := rest } ref r
      · exact ⟨_, .taken rest (takeFirst_sublist htake), hop⟩
      · exact ⟨_, .refused rest o ref r rfl hout hrestart htake hr, hop⟩
  | handoffAnswer =>
    have h' : s.onMsg selHandoffAns (fun r u => u.handoffAnswer r) = .next t := h
    obtain ⟨-, rfl⟩ | ⟨r, rest, htake, rfl⟩ := State.onMsg_cases h'
    · exact ⟨t, hnone, .refl t⟩
    · obtain hop | ⟨o, ref, hout, hrestart, rfl, hop⟩ := State.handoffAnswer_cases { s with net := rest } r
      · exact ⟨_, .taken rest (takeFirst_sublist htake), hop⟩
      · refine ⟨_, .unplaced rest o ref rfl hout hrestart htake, ?_⟩
        rw [State.took_nil]
        exact hop
  | _ => cases hc

/-! ## Every command -/

theorem exec_timeCountTick {s t : State} (h : exec .timeCountTick s = .next t) :
    t = { s with agt := { s.agt with timeCount := s.agt.timeCount + 1 },
                 clock := { s.clock with millis := s.clock.millis + 1 } } := next_eq_next.mp h

/-- The agent's command but the tick: the agent and the handoff slot change, and the admission unit where a prelude does. -/
theorem exec_agent_cases {c : Instr} {s t : State} (hc : c.home = some .agent) (htick : c ≠ .timeCountTick)
    (h : exec c s = .next t) :
    ∃ u, s.OutputPrelude c u ∧ u.AgentOp (s.MaySend c) t := by
  cases hout : answersOutput c with
  | true =>
    obtain ⟨u, hu, hop⟩ := exec_answersOutput_cases hout h
    exact ⟨u, hu, hop.mono (s.maySend_of_plain c)⟩
  | false => exact ⟨s, .taken s.net (.refl _), exec_agentOp hc hout htick h⟩

theorem exec_powerOnReset {straps : Byte} {l0 l1 lt : Link} {s t : State}
    (h : exec (.powerOnReset straps l0 l1 lt) s = .next t) :
    t = { State.powerOn straps ⟨l0, l1, lt⟩ with
          egr := { Egress.powerOn ⟨l0, l1, lt⟩ with nextTx := s.egr.nextTx }, pending := s.pending } :=
  next_eq_next.mp h

/-- Every block takes the events of its own commands. -/
theorem exec_by_home {P : Instr → Prop} (hreset : ∀ x l0 l1 lt, P (.powerOnReset x l0 l1 lt))
    (hhome : ∀ c b, c.home = some b → P c) (c : Instr) : P c := by
  cases h : c.home with
  | some b => exact hhome c b h
  | none =>
    cases c with
    | powerOnReset x l0 l1 lt => exact hreset x l0 l1 lt
    | _ => cases h

end Sys2Proof.Machine
end

section
set_option Elab.async false
/-! The part as a whole: every command has an outcome, and changes what its event's block owns (00, "Events"). -/

namespace Sys2Proof.Machine

/-! ## Every command has an outcome -/

theorem State.takeRequest_next (s : State) (row : RequestRow) : ∃ t, s.takeRequest row = .next t := by
  unfold State.takeRequest
  split
  · exact ⟨_, rfl⟩
  · split <;> exact ⟨_, rfl⟩

theorem exec_receiver_next {c : Instr} {p : Port} (hc : c.home = some (.receiver p)) (s : State) :
    ∃ t, exec c s = .next t := by
  cases c with
  | linkStateRead | receiverCounterRead | receiverFullRestart =>
    delta exec
    exact State.onMsg_next _ _ _
  | linkChange q st => exact (em ((s.rx.get q).link = st)).elim (fun h => ⟨s, if_pos h⟩) fun h => ⟨_, if_neg h⟩
  | frameStart q bytes =>
    show ∃ t, execFrameStart q bytes s = .next t
    unfold execFrameStart
    dsimp only
    split <;> exact ⟨_, rfl⟩
  | frameEnd q err =>
    show ∃ t, execFrameEnd q err s = .next t
    unfold execFrameEnd
    split <;> exact ⟨_, rfl⟩
  | _ => cases hc

theorem exec_classifier_next {c : Instr} (hc : c.home = some .classifier) (s : State) : ∃ t, exec c s = .next t := by
  cases c with
  | classify p =>
    show ∃ t, execClassify p s = .next t
    unfold execClassify
    split <;> exact ⟨_, rfl⟩
  | classifierLinkChange | classifierShadowCreate | classifierShadowDiscard | recordWrite | removal | emptyBankWrite
  | deviceWrite | recordRead | classifierEntryRead | nextRead | classifierSwap | classifierCounterRead
  | classifierTrafficRestart | classifierFullRestart =>
    delta exec
    exact State.onMsg_next _ _ _
  | _ => cases hc

theorem exec_merge_next {c : Instr} (hc : c.home = some .merge) (s : State) : ∃ t, exec c s = .next t := by
  cases c with
  | mergeGrantAnswer | mergePlacementAnswer | managementPlacementAnswer | releaseEnqueueAnswer | holdStateRead
  | mergeCounterRead | mergeTrafficRestart | mergeFullRestart =>
    delta exec
    exact State.onMsg_next _ _ _
  | takeDirectoryArrival =>
    show ∃ t, execTakeDirectoryArrival s = .next t
    unfold execTakeDirectoryArrival
    split
    · split <;> exact ⟨_, rfl⟩
    · exact ⟨_, rfl⟩
  | takeUnknownArrival =>
    show ∃ t, execTakeUnknownArrival s = .next t
    unfold execTakeUnknownArrival
    split
    · split <;> exact ⟨_, rfl⟩
    · exact ⟨_, rfl⟩
  | takeManagementArrival =>
    show ∃ t, execTakeManagementArrival s = .next t
    unfold execTakeManagementArrival
    split
    · split <;> exact ⟨_, rfl⟩
    · exact ⟨_, rfl⟩
  | silenceExpiry r =>
    show ∃ t, execSilenceExpiry r s = .next t
    unfold execSilenceExpiry
    split
    · split <;> exact ⟨_, rfl⟩
    · split
      · exact ⟨_, rfl⟩
      · split <;> exact ⟨_, rfl⟩
  | holdTimerExpiry k =>
    show ∃ t, execHoldTimerExpiry k s = .next t
    unfold execHoldTimerExpiry
    split
    · exact ⟨_, rfl⟩
    · split <;> exact ⟨_, rfl⟩
  | mergeReconciliationRequest =>
    show ∃ t, execMergeReconciliationRequest s = .next t
    unfold execMergeReconciliationRequest
    split
    · exact ⟨_, rfl⟩
    · split <;> exact ⟨_, rfl⟩
  | mergeReconcileKey =>
    show ∃ t, execMergeReconcileKey s = .next t
    unfold execMergeReconcileKey
    split <;> exact ⟨_, rfl⟩
  | _ => cases hc

theorem exec_admission_next {c : Instr} (hc : c.home = some .admission) (s : State) : ∃ t, exec c s = .next t := by
  cases c with
  | refillExpiry => exact ⟨_, rfl⟩
  | grantRequest | reserveGrantRequest | copyAdd | referenceRelease | releaseWatch | admissionShadowCreate
  | admissionShadowDiscard | policerWrite | poolWrite | admissionEntryRead | admissionStateRead | admissionCounterRead
  | admissionSwap | admissionTrafficRestart | admissionFullRestart =>
    delta exec
    exact State.onMsg_next _ _ _
  | counterEntryCreate who k =>
    show ∃ t, execCounterEntryCreate who k s = .next t
    unfold execCounterEntryCreate
    split <;> exact ⟨_, rfl⟩
  | counterEntryDelete who k =>
    show ∃ t, execCounterEntryDelete who k s = .next t
    unfold execCounterEntryDelete
    split <;> exact ⟨_, rfl⟩
  | _ => cases hc

theorem exec_replicator_next {c : Instr} (hc : c.home = some .replicator) (s : State) : ∃ t, exec c s = .next t := by
  cases c with
  | replicatorLinkChange | replicatorGrantAnswer | replicatorReserveGrantAnswer | replicatorEnqueueAnswer
  | replicatorCounterRead | replicatorTrafficRestart | replicatorFullRestart =>
    delta exec
    exact State.onMsg_next _ _ _
  | replicatorReconciliationRequest =>
    show ∃ t, execReplicatorReconciliationRequest s = .next t
    unfold execReplicatorReconciliationRequest
    split
    · exact ⟨_, rfl⟩
    · split <;> exact ⟨_, rfl⟩
  | replicatorReconcileKey =>
    show ∃ t, execReplicatorReconcileKey s = .next t
    unfold execReplicatorReconcileKey
    split
    · exact ⟨_, rfl⟩
    · split <;> exact ⟨_, rfl⟩
  | takeDirectoryDeparture =>
    show ∃ t, execTakeDirectoryDeparture s = .next t
    unfold execTakeDirectoryDeparture
    split
    · split <;> exact ⟨_, rfl⟩
    · exact ⟨_, rfl⟩
  | takeUnknownDeparture =>
    show ∃ t, execTakeUnknownDeparture s = .next t
    unfold execTakeUnknownDeparture
    split
    · split <;> exact ⟨_, rfl⟩
    · exact ⟨_, rfl⟩
  | takeHandoff =>
    show ∃ t, execTakeHandoff s = .next t
    unfold execTakeHandoff
    split
    · split <;> exact ⟨_, rfl⟩
    · exact ⟨_, rfl⟩
  | _ => cases hc

theorem exec_egress_next {c : Instr} (hc : c.home = some .egress) (s : State) : ∃ t, exec c s = .next t := by
  cases c with
  | enqueueRequest | copyAddAnswer | egressShadowCreate | egressShadowDiscard | queueWrite | egressEntryRead
  | egressSwap | egressCounterRead | egressTrafficRestart | egressFullRestart =>
    delta exec
    exact State.onMsg_next _ _ _
  | transmitCompletion p n =>
    show ∃ t, execTransmitCompletion p n s = .next t
    unfold execTransmitCompletion
    dsimp only
    split
    · exact ⟨_, rfl⟩
    · split <;> exact ⟨_, rfl⟩
  | egressLinkDown p =>
    show ∃ t, execEgressLinkDown p s = .next t
    unfold execEgressLinkDown
    split <;> exact ⟨_, rfl⟩
  | egressLinkUp p =>
    show ∃ t, execEgressLinkUp p s = .next t
    unfold execEgressLinkUp
    split <;> exact ⟨_, rfl⟩
  | _ => cases hc

theorem exec_agent_next {c : Instr} (hc : c.home = some .agent) (s : State) : ∃ t, exec c s = .next t := by
  cases c with
  | timeCountTick => exact ⟨_, rfl⟩
  | requestPlacement | shadowCreateAnswer | shadowWriteAnswer | shadowDiscardAnswer | ownerReadAnswer
  | agentReserveGrantAnswer | agentEnqueueAnswer | handoffAnswer | noticeRaise =>
    delta exec
    exact State.onMsg_next _ _ _
  | checkReadAnswer | preferredLaneAnswer | swapReport | swapDone | reconciliationDone | watchReturned | restartDone =>
    delta exec
    exact State.agentEvent_next _ _ _
  | unknownKindRequest | openSession | closeSession | putDirectory | putPolicers | putPools | putQueues | putDevice
  | dropKeys | clearBank | abandon | checkShadow | commit | readDirectory | readPolicers | readPools | readQueues
  | readDevice | readNext | readStatsKey | readStatsPort | readStatsDevice | status | restartTraffic | restartFull =>
    exact s.takeRequest_next _
  | sessionTimerExpiry =>
    show ∃ t, execSessionTimerExpiry s = .next t
    unfold execSessionTimerExpiry
    split
    · split <;> exact ⟨_, rfl⟩
    · exact ⟨_, rfl⟩
  | pacingExpiry =>
    show ∃ t, execPacingExpiry s = .next t
    unfold execPacingExpiry
    split <;> exact ⟨_, rfl⟩
  | _ => cases hc

theorem exec_next (c : Instr) (s : State) : ∃ t, exec c s = .next t := by
  refine exec_by_home (P := fun c => ∃ t, exec c s = .next t) (fun x l0 l1 lt => ⟨_, rfl⟩) (fun c b hc => ?_) c
  cases b with
  | receiver p => exact exec_receiver_next hc s
  | classifier => exact exec_classifier_next hc s
  | merge => exact exec_merge_next hc s
  | replicator => exact exec_replicator_next hc s
  | admission => exact exec_admission_next hc s
  | egress => exact exec_egress_next hc s
  | agent => exact exec_agent_next hc s

/-! ## What a command of each block changes -/

/-- The frame of a command, by the block that takes its event. -/
inductive State.HomeFrame (s : State) (c : Instr) (t : State) : Prop
  | receiver (p : Port) (hc : c.home = some (.receiver p)) (h : s.ReceiverOnly p t)
  | linkChange (p : Port) (st : Link) (x : PerPort Link) (hc : c = .linkChange p st)
      (h : State.ReceiverOnly { s with pins := { s.pins with link := x } } p t)
  | classifier (hc : c.home = some .classifier) (hclassify : ∀ p, c ≠ .classify p)
      (h : State.ClassifierOnly s.RecordSent s t)
  | classifierSet (hc : c.home = some .classifier) (h : s.ClassifierSet c t)
  | classify (p : Port) (hc : c = .classify p) (h : (s.withRx p { s.rx.get p with awaiting := none }).Classified t)
  | merge (hc : c.home = some .merge) (h : State.MergeOnly s.RecordSent s.mrg s t)
  | mergeWrites (hc : c.home = some .merge) (ref : FrameRef) (rest : List Msg) (hgranted : s.granted c = some ref)
      (hrest : SendsPlain s.net rest) (h : State.MergeWrites s.RecordSent s.mrg { s with net := rest } ref t)
  | admission (hc : c.home = some .admission) (hrefill : c ≠ .refillExpiry) (h : s.AdmissionOnly t)
  | admissionSet (hc : c.home = some .admission) (h : s.AdmissionSet c t)
  | refill (hc : c = .refillExpiry)
      (h : t = { s with adm := { s.adm with policers := s.adm.policers.map Policer.refilled },
                        clock := { s.clock with tens := s.clock.tens + 1 } })
  | replicator (hc : c.home = some .replicator) (h : State.ReplicatorOnly s.RecordSent s t)
  | replicatorWrites (hc : c.home = some .replicator) (ref : FrameRef) (rest : List Msg)
      (hgranted : s.granted c = some ref) (hrest : SendsPlain s.net rest)
      (h : State.ReplicatorWrites s.RecordSent { s with net := rest } ref t)
  | egress (hc : c.home = some .egress) (h : s.EgressOnly t)
  | egressSet (hc : c.home = some .egress) (h : s.EgressSet c t)
  | agent (hc : c.home = some .agent) (htick : c ≠ .timeCountTick) (u : State) (hu : s.OutputPrelude c u)
      (h : u.AgentOp (s.MaySend c) t)
  | tick (hc : c = .timeCountTick)
      (h : t = { s with agt := { s.agt with timeCount := s.agt.timeCount + 1 },
                        clock := { s.clock with millis := s.clock.millis + 1 } })

/-- A classification with no frame awaiting changes nothing. -/
theorem State.withRx_awaiting_none {s : State} {p : Port} (h : (s.rx.get p).awaiting = none) :
    s.withRx p { s.rx.get p with awaiting := none } = s := by
  have hsame : { s.rx.get p with awaiting := none } = s.rx.get p := by rw [← h]
  rw [hsame]
  simp only [State.withRx, PerPort.set_get_self]

theorem exec_homeFrame {c : Instr} {b : Block} {s t : State} (hc : c.home = some b) (h : exec c s = .next t) :
    s.HomeFrame c t := by
  cases b with
  | receiver p =>
    obtain h | ⟨st, x, rfl, hpin⟩ := exec_receiver_cases hc h
    · exact .receiver p hc h
    · exact .linkChange p st x rfl hpin
  | classifier =>
    by_cases hclassify : ∃ p, c = .classify p
    · obtain ⟨p, rfl⟩ := hclassify
      obtain ⟨hawait, rfl⟩ | ⟨f, -, rfl⟩ := exec_classify_cases h
      · exact .classify p rfl ((State.withRx_awaiting_none hawait).symm ▸ t.classified_withCls t.cls)
      · exact .classify p rfl (State.classify_classified _ p f)
    · have hclassify : ∀ p, c ≠ .classify p := fun p hp => hclassify ⟨p, hp⟩
      exact (exec_classifier_cases hc hclassify h).elim (.classifier hc hclassify) (.classifierSet hc)
  | merge =>
    obtain h | ⟨ref, rest, hgranted, hrest, h⟩ := exec_merge_cases hc h
    · exact .merge hc h
    · exact .mergeWrites hc ref rest hgranted hrest h
  | admission =>
    by_cases hrefill : c = .refillExpiry
    · subst hrefill
      exact .refill rfl (next_eq_next.mp h)
    · exact (exec_admission_cases hc hrefill h).elim (.admission hc hrefill) (.admissionSet hc)
  | replicator =>
    obtain h | ⟨ref, rest, hgranted, hrest, h⟩ := exec_replicator_cases hc h
    · exact .replicator hc h
    · exact .replicatorWrites hc ref rest hgranted hrest h
  | egress => exact (exec_egress_cases hc h).elim (.egress hc) (.egressSet hc)
  | agent =>
    by_cases htick : c = .timeCountTick
    · subst htick
      exact .tick rfl (exec_timeCountTick h)
    · obtain ⟨u, hu, hop⟩ := exec_agent_cases hc htick h
      exact .agent hc htick u hu hop

end Sys2Proof.Machine
end

section
set_option Elab.async false
/-! The part as a whole (00, "The part as a whole"): a step, the outcome of every command, and the block each changes. -/

namespace Sys2Proof.Machine

/-! ## The outcome of a command -/

/-- The commands waiting outside the part stand. -/
theorem State.HomeFrame.pending {c : Instr} {s t : State} (h : s.HomeFrame c t) : t.pending = s.pending := by
  cases h with
  | receiver p hc h => obtain ⟨x, n, rfl, -⟩ := h; rfl
  | linkChange p st x hc h => obtain ⟨y, n, rfl, -⟩ := h; rfl
  | classifier hc hclassify h => obtain ⟨x, n, rfl, -⟩ := h; rfl
  | classifierSet hc h => cases h <;> rfl
  | classify p hc h => obtain ⟨x, mq, rq, aq, n, -, -, -, -, -, rfl⟩ := h; rfl
  | merge hc h => obtain ⟨x, n, rfl, -⟩ := h; rfl
  | mergeWrites hc ref rest hgranted hrest h => obtain ⟨bytes, x, n, rfl, -⟩ := h; rfl
  | admission hc hrefill h => obtain ⟨x, n, rfl, -⟩ := h; rfl
  | admissionSet hc h => cases h <;> rfl
  | refill hc h => rw [h]
  | replicator hc h => obtain ⟨x, n, rfl, -⟩ := h; rfl
  | replicatorWrites hc ref rest hgranted hrest h => obtain ⟨bytes, x, n, rfl, -⟩ := h; rfl
  | egress hc h => obtain ⟨x, n, rfl, -⟩ := h; rfl
  | egressSet hc h => cases h <;> rfl
  | agent hc htick u hu h =>
    have hprelude : u.pending = s.pending := by obtain ⟨x, n, rfl, -⟩ := hu.frame; rfl
    exact (congrArg State.pending h.frame).trans hprelude
  | tick hc h => rw [h]

theorem exec_pending {c : Instr} {s t : State} (h : exec c s = .next t) : t.pending = s.pending := by
  refine exec_by_home (P := fun c => exec c s = .next t → t.pending = s.pending) (fun x l0 l1 lt h => ?_)
    (fun c b hc h => (exec_homeFrame hc h).pending) c h
  rw [exec_powerOnReset h]

/-- Settles O1. -/
theorem stepRunsTheFrontCommand : Obligations.StepRunsTheFrontCommand := by
  refine ⟨fun s c cs h => ?_, fun s h => ?_⟩
  · simp only [step, h]
    rfl
  · simp only [step, h]

/-- Settles O2: each command's meaning ends in `next`, and no block's commands touch the commands waiting outside. -/
theorem everyCommandAnswersNext : Obligations.EveryCommandAnswersNext := fun c s =>
  have ⟨t, h⟩ := exec_next c s
  ⟨t, h, exec_pending h⟩

/-! ## What a command of each block changes -/

/-- A frame written into the blocks that a reference names: its record's bytes alone change, where the reference is current. -/
theorem State.writeFrame_adm_eq (s : State) (ref : FrameRef) (bytes : List Byte) :
    (s.writeFrame ref bytes).adm = s.adm ∨
      (s.writeFrame ref bytes).adm =
        { s.adm with records := s.adm.records.map fun r => if r.id = ref.id then { r with bytes := bytes } else r } := by
  by_cases h : ref.restart = s.adm.restarts
  · exact .inr (by simp only [State.writeFrame, Admission.updRecord, h, if_true])
  · exact .inl (by simp only [State.writeFrame, Admission.updRecord, h, if_false])

/-- What the prelude of an answer to the agent's frame does to the admission unit. -/
theorem State.OutputPrelude.adm_eq {s u : State} {c : Instr} (h : s.OutputPrelude c u) :
    u.adm = s.adm ∨
      (∃ ref bytes, s.granted c = some ref ∧
        u.adm =
          { s.adm with
            records := s.adm.records.map fun r => if r.id = ref.id then { r with bytes := bytes } else r }) ∨
      (c = .agentEnqueueAnswer ∧ ∃ o ref r rest, s.agt.output = some o ∧ o.restart = true ∧
        takeFirst selOutputAns s.net = some ((ref, r), rest) ∧ r ≠ .placed ∧
        u.adm = (State.takeReleases (s.took rest [.release ref]) ref).adm) ∨
      (c = .handoffAnswer ∧ ∃ o ref rest, s.agt.output = some o ∧ o.restart = true ∧
        takeFirst selHandoffAns s.net = some (.sent ref 0, rest) ∧
        u.adm = (State.takeReleases (s.took rest []) ref).adm) := by
  cases h with
  | taken rest h => exact .inl rfl
  | written rest ref bytes h hgranted =>
    exact (State.writeFrame_adm_eq { s with net := rest } ref bytes).imp id fun h => .inl ⟨ref, bytes, hgranted, h⟩
  | refused rest o ref r hc hout hrestart htake hr =>
    exact .inr (.inr (.inl ⟨hc, o, ref, r, rest, hout, hrestart, htake, hr, rfl⟩))
  | unplaced rest o ref hc hout hrestart htake =>
    exact .inr (.inr (.inr ⟨hc, o, ref, rest, hout, hrestart, htake, rfl⟩))

theorem not_classify_of_home {c : Instr} {b : Block} (hc : c.home = some b) (hb : b ≠ .classifier) (p : Port) :
    c ≠ .classify p := by
  rintro rfl
  exact hb (Option.some.inj hc).symm

theorem not_outputAnswer_of_home {c : Instr} {b : Block} (hc : c.home = some b) (hb : b ≠ .agent) :
    c ≠ .agentEnqueueAnswer ∧ c ≠ .handoffAnswer := by
  refine ⟨?_, ?_⟩
  · rintro rfl
    exact hb (Option.some.inj hc).symm
  · rintro rfl
    exact hb (Option.some.inj hc).symm

/-- Settles O3, by the frame of each block's commands. -/
theorem blocksChangeAtTheirOwnEvents : Obligations.BlocksChangeAtTheirOwnEvents := by
  intro c s t hhome hexec
  obtain ⟨b, hb⟩ := Option.isSome_iff_exists.mp hhome
  cases exec_homeFrame hb hexec with
  | receiver p hc h =>
    obtain ⟨x, n, rfl, -⟩ := h
    have hclassify (q : Port) : c ≠ .classify q := not_classify_of_home hc (by simp) q
    have hne (q : Port) (hq : c.home ≠ some (.receiver q)) : q ≠ p := fun e => hq (e ▸ hc)
    have hrx (q : Port) (hq : c.home ≠ some (.receiver q)) : (s.rx.set p x).get q = s.rx.get q :=
      PerPort.get_set_ne _ _ _ _ (hne q hq)
    simp +contextual [hc, hclassify, hrx]
  | linkChange p st pins hc h =>
    obtain ⟨x, n, rfl, -⟩ := h
    subst hc
    have hrx (q : Port) (hq : p ≠ q) : (s.rx.set p x).get q = s.rx.get q :=
      PerPort.get_set_ne _ _ _ _ (Ne.symm hq)
    have hhome : (Instr.linkChange p st).home = some (.receiver p) := rfl
    simp +contextual [hhome, hrx]
  | classifier hc hclassify h =>
    obtain ⟨x, n, rfl, -⟩ := h
    simp [hc, hclassify]
  | classifierSet hc h => cases h <;> simp [hc]
  | classify p hc h =>
    obtain ⟨x, mq, rq, aq, n, -, -, -, -, -, rfl⟩ := h
    subst hc
    have hrx (q : Port) (y : Receiver) (hq : p ≠ q) : (s.rx.set p y).get q = s.rx.get q :=
      PerPort.get_set_ne _ _ _ _ (Ne.symm hq)
    have hhome : (Instr.classify p).home = some .classifier := rfl
    simp +contextual [hhome, hrx]
  | merge hc h =>
    obtain ⟨x, n, rfl, -⟩ := h
    have hclassify (q : Port) : c ≠ .classify q := not_classify_of_home hc (by simp) q
    simp [hc, hclassify]
  | mergeWrites hc ref rest hgranted hrest h =>
    obtain ⟨bytes, x, n, rfl, -⟩ := h
    have hclassify (q : Port) : c ≠ .classify q := not_classify_of_home hc (by simp) q
    obtain ⟨henqueue, hhandoff⟩ := not_outputAnswer_of_home hc (by simp)
    simpa [hc, hclassify, henqueue, hhandoff, hgranted] using
      (State.writeFrame_adm_eq { s with net := rest } ref bytes).imp id fun h => ⟨bytes, h⟩
  | admission hc hrefill h =>
    obtain ⟨x, n, rfl, -⟩ := h
    have hclassify (q : Port) : c ≠ .classify q := not_classify_of_home hc (by simp) q
    obtain ⟨henqueue, hhandoff⟩ := not_outputAnswer_of_home hc (by simp)
    simp [hc, hclassify, henqueue, hhandoff]
  | admissionSet hc h => cases h <;> simp [hc]
  | refill hc h =>
    subst hc h
    have hhome : Instr.refillExpiry.home = some .admission := rfl
    simp [hhome]
  | replicator hc h =>
    obtain ⟨x, n, rfl, -⟩ := h
    have hclassify (q : Port) : c ≠ .classify q := not_classify_of_home hc (by simp) q
    simp [hc, hclassify]
  | replicatorWrites hc ref rest hgranted hrest h =>
    obtain ⟨bytes, x, n, rfl, -⟩ := h
    have hclassify (q : Port) : c ≠ .classify q := not_classify_of_home hc (by simp) q
    obtain ⟨henqueue, hhandoff⟩ := not_outputAnswer_of_home hc (by simp)
    simpa [hc, hclassify, henqueue, hhandoff, hgranted] using
      (State.writeFrame_adm_eq { s with net := rest } ref bytes).imp id fun h => ⟨bytes, h⟩
  | egress hc h =>
    obtain ⟨x, n, rfl, -⟩ := h
    have hclassify (q : Port) : c ≠ .classify q := not_classify_of_home hc (by simp) q
    simp [hc, hclassify]
  | egressSet hc h => cases h <;> simp [hc]
  | agent hc htick u hu h =>
    have hclassify (q : Port) : c ≠ .classify q := not_classify_of_home hc (by simp) q
    obtain ⟨x, n, hframe, -⟩ := hu.frame
    obtain ⟨a, ho, n', ht⟩ : ∃ a ho n', t = State.withAgentPart { u with net := n' } (a, ho) := ⟨_, _, _, h.frame⟩
    have hadm : t.adm = u.adm := by rw [ht]; rfl
    have hprelude := hu.adm_eq
    rw [← hadm] at hprelude
    have hrest : t = State.withAgentPart { (s.withAdm t.adm) with net := n' } (a, ho) := by rw [hadm, ht, hframe]; rfl
    generalize t.adm = y at hrest hprelude
    subst hrest
    clear hexec h hadm ht hu
    refine ⟨⟨rfl, rfl, fun _ => rfl⟩, ⟨fun _ => rfl, fun _ => rfl⟩, fun _ _ _ => rfl, fun _ => rfl, fun _ _ => rfl,
      fun _ hagent => absurd hc hagent, fun _ => rfl, fun _ => rfl, fun hagent => absurd hc hagent,
      fun q hq => absurd hq (hclassify q), fun _ henqueue hhandoff => ?_, fun henqueue => ?_, fun hhandoff => ?_⟩
    · obtain h | h | ⟨rfl, -⟩ | ⟨rfl, -⟩ := hprelude
      · exact .inl h
      · exact .inr h
      · exact absurd rfl henqueue
      · exact absurd rfl hhandoff
    · subst henqueue
      obtain h | ⟨ref, bytes, hgranted, -⟩ | ⟨-, h⟩ | ⟨hne, -⟩ := hprelude
      · exact .inl h
      · cases hgranted
      · exact .inr h
      · cases hne
    · subst hhandoff
      obtain h | ⟨ref, bytes, hgranted, -⟩ | ⟨hne, -⟩ | ⟨-, h⟩ := hprelude
      · exact .inl h
      · cases hgranted
      · cases hne
      · exact .inr h
  | tick hc h =>
    subst hc h
    have hhome : Instr.timeCountTick.home = some .agent := rfl
    simp [hhome]

end Sys2Proof.Machine
end

section
set_option Elab.async false
/-! Laws of the device that every step keeps: queues, banks, credits, frame memory, ports, notices, streams (R23, R46, R50, R78,
R97, R101, R118, R120, R139, R155, R210). -/

namespace Sys2Proof.Machine

/-! ## One step, one command -/

/-- What a command keeps, whatever commands wait behind it, a step keeps. -/
theorem step_keeps {I : State → Prop} (hpending : ∀ s cs, I s → I (s.withPending cs))
    (hexec : ∀ c s t, I s → exec c s = .next t → I t) {s t : State} (hs : I s) (h : step s = .next t) : I t := by
  unfold step at h
  split at h
  · exact next_eq_next.mp h ▸ hs
  · exact hexec _ _ t (hpending s _ hs) h

/-- A law of every command but a power-on reset, and of the part after any power-on reset. -/
theorem exec_keeps {I : State → Prop} {s t : State} {c : Instr} (h : exec c s = .next t)
    (hreset : ∀ straps links next cs, I { State.powerOn straps links with
      egr := { Egress.powerOn links with nextTx := next }, pending := cs })
    (hhome : ∀ b, c.home = some b → I t) : I t := by
  refine exec_by_home (P := fun c => exec c s = .next t → (∀ b, c.home = some b → I t) → I t) (fun x l0 l1 lt h _ => ?_)
    (fun c b hc _ hhome => hhome b hc) c h hhome
  rw [exec_powerOnReset h]
  exact hreset x ⟨l0, l1, lt⟩ s.egr.nextTx s.pending

/-! ## What a command makes of each block -/

section
variable {c : Instr} {b : Block} {s t : State}

/-- What a command makes of the classifier. -/
theorem exec_cls_cases (hc : c.home = some b) (h : exec c s = .next t) :
    s.cls.Keeps s.RecordSent t.cls ∨ s.ClassifierSet c t := by
  obtain ⟨-, -, -, hcls, -⟩ := blocksChangeAtTheirOwnEvents c s t (by simp [hc]) h
  by_cases hb : c.home = some .classifier
  · by_cases hclassify : ∃ p, c = .classify p
    · obtain ⟨p, rfl⟩ := hclassify
      obtain ⟨-, rfl⟩ | ⟨f, -, rfl⟩ := exec_classify_cases h
      · exact .inl (.refl _)
      · obtain ⟨x, mq, rq, aq, n, -, hx, -, -, -, ht⟩ :=
          (s.withRx p { s.rx.get p with awaiting := none }).classify_classified p f
        rw [ht]
        exact .inl (hx _)
    · exact (exec_classifier_cases hb (fun p hp => hclassify ⟨p, hp⟩) h).imp State.Only.rel id
  · rw [hcls hb]
    exact .inl (.refl _)

/-- What a command makes of the merge engine: a change of its own, or one of its input queue at a classification. -/
theorem exec_mrg_cases (hc : c.home = some b) (h : exec c s = .next t) :
    Merge.Changes s.RecordSent s.mrg s.mrg t.mrg ∨ ∃ q, KeepsWithin 16 s.mrg.queue q ∧ t.mrg = { s.mrg with queue := q } := by
  obtain ⟨-, -, -, -, hmrg, -⟩ := blocksChangeAtTheirOwnEvents c s t (by simp [hc]) h
  by_cases hb : c.home = some .merge
  · obtain honly | ⟨ref, rest, -, -, bytes, hwrites⟩ := exec_merge_cases hb h
    · exact .inl honly.rel
    · exact .inl hwrites.rel
  · by_cases hclassify : ∃ p, c = .classify p
    · obtain ⟨p, rfl⟩ := hclassify
      obtain ⟨-, rfl⟩ | ⟨f, -, rfl⟩ := exec_classify_cases h
      · exact .inl .refl
      · obtain ⟨x, mq, rq, aq, n, -, -, hmq, -, -, ht⟩ :=
          (s.withRx p { s.rx.get p with awaiting := none }).classify_classified p f
        exact .inr ⟨mq, hmq, by rw [ht]; rfl⟩
    · rw [hmrg hb fun p hp => hclassify ⟨p, hp⟩]
      exact .inl .refl

/-- What a command makes of the replicator: a change of its own, one of its input queue at a classification, or one of its
handoff slot at an event of the agent. -/
theorem exec_rep_cases (hc : c.home = some b) (h : exec c s = .next t) :
    s.rep.Keeps s.RecordSent t.rep ∨
      ∃ q x, KeepsWithin 8 s.rep.queue q ∧ t.rep = { s.rep with queue := q, handoff := x } := by
  obtain ⟨-, -, -, -, -, hrep, hhandoff, -⟩ := blocksChangeAtTheirOwnEvents c s t (by simp [hc]) h
  by_cases hb : c.home = some .replicator
  · obtain honly | ⟨ref, rest, -, -, bytes, hwrites⟩ := exec_replicator_cases hb h
    · exact .inl honly.rel
    · exact .inl hwrites.rel
  · by_cases hagent : c.home = some .agent
    · exact .inr ⟨s.rep.queue, t.rep.handoff, id, hhandoff hagent⟩
    · by_cases hclassify : ∃ p, c = .classify p
      · obtain ⟨p, rfl⟩ := hclassify
        obtain ⟨-, rfl⟩ | ⟨f, -, rfl⟩ := exec_classify_cases h
        · exact .inl (.refl _)
        · obtain ⟨x, mq, rq, aq, n, -, -, -, hrq, -, ht⟩ :=
            (s.withRx p { s.rx.get p with awaiting := none }).classify_classified p f
          exact .inr ⟨rq, s.rep.handoff, hrq, by rw [ht]; rfl⟩
      · rw [hrep hb hagent fun p hp => hclassify ⟨p, hp⟩]
        exact .inl (.refl _)

/-- What a command makes of the egress unit. -/
theorem exec_egr_cases (hc : c.home = some b) (h : exec c s = .next t) : s.egr.Keeps t.egr ∨ s.EgressSet c t := by
  obtain ⟨-, -, -, -, -, -, -, hegr, -⟩ := blocksChangeAtTheirOwnEvents c s t (by simp [hc]) h
  by_cases hb : c.home = some .egress
  · exact (exec_egress_cases hb h).imp State.Only.rel id
  · rw [hegr hb]
    exact .inl (.refl _)

/-- What a command makes of the admission unit. -/
theorem exec_adm_cases (hc : c.home = some b) (h : exec c s = .next t) :
    s.adm.Keeps t.adm ∨ s.AdmissionSet c t ∨
      (c = .refillExpiry ∧ t.adm = { s.adm with policers := s.adm.policers.map Policer.refilled }) := by
  have hsame (e : t.adm = s.adm) : s.adm.Keeps t.adm := e ▸ .refl _
  cases exec_homeFrame hc h with
  | receiver p hc h => obtain ⟨x, n, rfl, -⟩ := h; exact .inl (.refl _)
  | linkChange p st x hc h => obtain ⟨y, n, rfl, -⟩ := h; exact .inl (.refl _)
  | classifier hc hclassify h => obtain ⟨x, n, rfl, -⟩ := h; exact .inl (.refl _)
  | classifierSet hc h => exact .inl (hsame (by cases h <;> rfl))
  | classify p hc h => obtain ⟨x, mq, rq, aq, n, -, -, -, -, -, rfl⟩ := h; exact .inl (.refl _)
  | merge hc h => obtain ⟨x, n, rfl, -⟩ := h; exact .inl (.refl _)
  | mergeWrites hc ref rest hgranted hrest h =>
    obtain ⟨bytes, x, n, rfl, -⟩ := h
    exact .inl (State.writeFrame_keeps { s with net := rest } ref bytes)
  | admission hc hrefill h => exact .inl h.rel
  | admissionSet hc h => exact .inr (.inl h)
  | refill hc h => exact .inr (.inr ⟨hc, by rw [h]⟩)
  | replicator hc h => obtain ⟨x, n, rfl, -⟩ := h; exact .inl (.refl _)
  | replicatorWrites hc ref rest hgranted hrest h =>
    obtain ⟨bytes, x, n, rfl, -⟩ := h
    exact .inl (State.writeFrame_keeps { s with net := rest } ref bytes)
  | egress hc h => obtain ⟨x, n, rfl, -⟩ := h; exact .inl (.refl _)
  | egressSet hc h => exact .inl (hsame (by cases h <;> rfl))
  | agent hc htick u hu h =>
    have hadm : t.adm = u.adm := (congrArg State.adm h.frame).trans rfl
    rw [hadm]
    exact .inl hu.frame.rel
  | tick hc h => exact .inl (hsame (by rw [h]))

/-- What a command makes of the agent: an operation of the agent, a tick of its time count, or a placement in its queue. -/
theorem exec_agt_cases (hc : c.home = some b) (h : exec c s = .next t) :
    (∃ u, s.OutputPrelude c u ∧ u.AgentOp (s.MaySend c) t) ∨ (t.agt = { s.agt with timeCount := s.agt.timeCount + 1 }) ∨
      ∃ q, KeepsWithin 4 s.agt.queue q ∧ t.agt = { s.agt with queue := q } := by
  obtain ⟨-, -, -, -, -, -, -, -, hagt, -⟩ := blocksChangeAtTheirOwnEvents c s t (by simp [hc]) h
  by_cases hb : c.home = some .agent
  · by_cases htick : c = .timeCountTick
    · subst htick
      exact .inr (.inl (by rw [exec_timeCountTick h]))
    · exact .inl (exec_agent_cases hb htick h)
  · by_cases hclassify : ∃ p, c = .classify p
    · obtain ⟨p, rfl⟩ := hclassify
      obtain ⟨-, rfl⟩ | ⟨f, -, rfl⟩ := exec_classify_cases h
      · exact .inr (.inr ⟨t.agt.queue, id, rfl⟩)
      · obtain ⟨x, mq, rq, aq, n, -, -, -, -, haq, ht⟩ :=
          (s.withRx p { s.rx.get p with awaiting := none }).classify_classified p f
        exact .inr (.inr ⟨aq, haq, by rw [ht]; rfl⟩)
    · rw [hagt hb fun p hp => hclassify ⟨p, hp⟩]
      exact .inr (.inr ⟨s.agt.queue, id, rfl⟩)

/-- The prelude of an agent's answer leaves the agent as it is. -/
theorem State.OutputPrelude.agt {u : State} (h : s.OutputPrelude c u) : u.agt = s.agt := by
  obtain ⟨x, n, rfl, -⟩ := h.frame
  rfl

end

/-! ## The input queues -/

/-- The merge engine's own commands only take entries from its queue. -/
theorem Merge.Change.queue {R : DirRecord → Prop} {m0 m m' : Merge} (h : Merge.Change R m0 m m') :
    m'.queue.length ≤ m.queue.length := by
  cases h with
  | took e rest hqueue => simp [hqueue]
  | trafficRestart => exact Nat.zero_le _
  | poweredOn => exact Nat.zero_le _
  | _ => exact Nat.le_refl _

theorem Merge.Changes.queue {R : DirRecord → Prop} {m0 m m' : Merge} (h : Merge.Changes R m0 m m') :
    m'.queue.length ≤ m.queue.length := by
  induction h with
  | refl => exact Nat.le_refl _
  | tail _ hstep ih => exact hstep.queue.trans ih

theorem exec_queuesOk {c : Instr} {s t : State} (hs : s.QueuesOk) (h : exec c s = .next t) : t.QueuesOk := by
  refine exec_keeps h (fun _ _ _ _ => ⟨Nat.zero_le _, Nat.zero_le _, Nat.zero_le _⟩) fun b hc => ⟨?_, ?_, ?_⟩
  · obtain hm | ⟨q, hq, hm⟩ := exec_mrg_cases hc h
    · exact hm.queue.trans hs.merge
    · rw [hm]
      exact hq hs.merge
  · obtain hr | ⟨q, x, hq, hr⟩ := exec_rep_cases hc h
    · exact hr.queue.trans hs.replicator
    · rw [hr]
      exact hq hs.replicator
  · obtain ⟨u, hu, hop⟩ | ha | ⟨q, hq, ha⟩ := exec_agt_cases hc h
    · exact hop.queue (hu.agt ▸ hs.requests)
    · rw [ha]
      exact hs.requests
    · rw [ha]
      exact hq hs.requests

/-- 6 buffers at the receivers, 28 in the three queues and one in hand at each of two blocks: within the 37 of R133. -/
theorem State.QueuesOk.staging {s : State} (h : s.QueuesOk) : s.stagingInUse ≤ 37 := by
  have hone (r : Receiver) : r.reception.toList.length + r.awaiting.toList.length ≤ 2 := by
    cases r.reception <;> cases r.awaiting <;> simp
  have h0 := hone s.rx.l0
  have h1 := hone s.rx.l1
  have h2 := hone s.rx.t
  have h5 := h.merge
  have h6 := h.replicator
  have h7 := h.requests
  have hhands : ∀ {n a b : Nat}, n ≤ 34 → a ≤ 1 → b ≤ 1 → n + a + b ≤ 37 := by omega
  unfold State.stagingInUse
  refine hhands (by dsimp only; omega) ?_ ?_
  · split
    · exact Nat.le_refl _
    · exact Nat.le_refl _
    · split <;> simp
    · exact Nat.zero_le _
  · split <;> simp

/-- Settles O7. -/
theorem stepKeepsQueueBounds : Obligations.StepKeepsQueueBounds := fun _ t hs h =>
  have ht : t.QueuesOk := step_keeps (I := State.QueuesOk) (fun _ _ h => ⟨h.merge, h.replicator, h.requests⟩)
    (fun _ _ _ => exec_queuesOk) hs h
  ⟨ht, ht.staging⟩

/-! ## Banks, credits, frame memory and ports -/

theorem exec_banksOk {c : Instr} {s t : State} (hs : s.cls.BanksOk) (h : exec c s = .next t) : t.cls.BanksOk := by
  have hempty {x : Classifier} (hbank : x.bank = []) (hshadow : x.shadow = none) : x.BanksOk :=
    ⟨by rw [hbank]; rfl, by simp [hshadow]⟩
  refine exec_keeps (I := fun t => t.cls.BanksOk) h (fun _ _ _ _ => hempty rfl rfl) fun b hc => ?_
  obtain hkeeps | hset := exec_cls_cases hc h
  · exact hkeeps.banksOk hs
  · cases hset with
    | swapped rest sh htake hsh => exact ⟨hs.shadow sh hsh, fun _ hx => by cases hx⟩
    | restarted rest hrest => exact hempty rfl rfl

/-- Settles O8. -/
theorem stepKeepsBankOrder : Obligations.StepKeepsBankOrder := fun _ _ =>
  step_keeps (I := fun s => s.cls.BanksOk) (fun _ _ h => h) fun _ _ _ => exec_banksOk

theorem Admission.powerOn_creditsOk (a : Admission) (h : a.policers = Admission.powerOn.policers) : a.CreditsOk := by
  rw [Admission.CreditsOk, h]
  simp only [Admission.powerOn]
  intro i
  simp

theorem exec_creditsOk {c : Instr} {s t : State} (hs : s.adm.CreditsOk) (h : exec c s = .next t) : t.adm.CreditsOk := by
  refine exec_keeps (I := fun t => t.adm.CreditsOk) h (fun _ _ _ _ => Admission.powerOn_creditsOk _ rfl) fun b hc => ?_
  obtain hkeeps | hset | ⟨-, hrefill⟩ := exec_adm_cases hc h
  · exact hkeeps.credits hs
  · cases hset with
    | swapped rest sh htake hsh =>
      intro i
      simpa [Admission.swapped] using Policer.swapTo_credit _
    | restarted rest hrest => exact Admission.powerOn_creditsOk _ rfl
  · rw [hrefill]
    intro i
    simpa using Policer.refilled_credit (hs i)

/-- Settles O9. -/
theorem stepKeepsCreditsWithinCeilings : Obligations.StepKeepsCreditsWithinCeilings := fun _ _ =>
  step_keeps (I := fun s => s.adm.CreditsOk) (fun _ _ h => h) fun _ _ _ => exec_creditsOk

theorem exec_memoryOk {c : Instr} {s t : State} (hs : s.adm.MemoryOk) (h : exec c s = .next t) : t.adm.MemoryOk := by
  refine exec_keeps (I := fun t => t.adm.MemoryOk) h (fun _ _ _ _ => Admission.memoryOk_of_empty rfl rfl rfl rfl)
    fun b hc => ?_
  obtain hkeeps | hset | ⟨-, hrefill⟩ := exec_adm_cases hc h
  · exact hkeeps.memory hs
  · cases hset with
    | swapped rest sh htake hsh => exact hs.congr rfl rfl rfl rfl rfl
    | restarted rest hrest => exact Admission.memoryOk_of_empty rfl rfl rfl rfl
  · rw [hrefill]
    exact hs.congr rfl rfl rfl rfl rfl

/-- Settles O10. -/
theorem stepKeepsFrameMemoryAccounts : Obligations.StepKeepsFrameMemoryAccounts := fun _ _ =>
  step_keeps (I := fun s => s.adm.MemoryOk) (fun _ _ h => h) fun _ _ _ => exec_memoryOk

theorem Egress.ok_of_empty {g : Egress} (h : ∀ p, (g.ports.get p).queues = ⟨[], [], [], []⟩ ∧ (g.ports.get p).tx = none) :
    g.Ok := fun p => PortEgress.ok_of_empty (h p).1 (h p).2

theorem exec_egressOk {c : Instr} {s t : State} (hs : s.egr.Ok) (h : exec c s = .next t) : t.egr.Ok := by
  refine exec_keeps (I := fun t => t.egr.Ok) h
    (fun _ _ _ _ => Egress.ok_of_empty fun p => by cases p <;> exact ⟨rfl, rfl⟩) fun b hc => ?_
  obtain hkeeps | hset := exec_egr_cases hc h
  · exact hkeeps.ok hs
  · cases hset with
    | swapped rest v htake hv =>
      intro p
      have hp := hs p
      cases p <;> exact ⟨hp.slots, hp.linkUp, hp.busy⟩
    | restarted rest hrest => exact Egress.ok_of_empty fun p => by cases p <;> exact ⟨rfl, rfl⟩

/-- Settles O11. -/
theorem stepKeepsPortsWithinSlotsAndBusy : Obligations.StepKeepsPortsWithinSlotsAndBusy := fun _ _ =>
  step_keeps (I := fun s => s.egr.Ok) (fun _ _ h => h) fun _ _ _ => exec_egressOk

/-! ## Notices -/

theorem exec_noticesOk {c : Instr} {s t : State} (hs : s.agt.NoticesOk) (h : exec c s = .next t) : t.agt.NoticesOk := by
  refine exec_keeps (I := fun t => t.agt.NoticesOk) h (fun _ _ _ _ => .of_nil rfl) fun b hc => ?_
  obtain ⟨u, hu, hop⟩ | ha | ⟨q, -, ha⟩ := exec_agt_cases hc h
  · exact hop.notices (hu.agt ▸ hs)
  · exact hs.of_eq (by rw [ha])
  · exact hs.of_eq (by rw [ha])

/-- Settles O12. -/
theorem stepKeepsNoticeList : Obligations.StepKeepsNoticeList := fun _ _ =>
  step_keeps (I := fun s => s.agt.NoticesOk) (fun _ _ h => h) fun _ _ _ => exec_noticesOk

end Sys2Proof.Machine
end

section
set_option Elab.async false
/-! One recovery record: the verdict on an arrival by its position, and the window after an acceptance (R46, R53 to R66). -/

namespace Sys2Proof.Machine

/-! ## Positions ahead and behind (R47) -/

theorem seqAhead_self (q : Seq) : seqAhead q q = 0 := by simp [seqAhead]

theorem seqAhead_lt (a b : Seq) : seqAhead a b < 65536 := (a - b).isLt

/-- The ways round from `a` to `b` and from `b` to `a` make one full turn, or none. -/
theorem seqAhead_turn (a b : Seq) : (seqAhead a b = 0 ∧ a = b) ∨ seqAhead a b + seqAhead b a = 65536 := by
  by_cases h : a = b
  · exact .inl ⟨h ▸ seqAhead_self a, h⟩
  · refine .inr ?_
    have : a.toNat ≠ b.toNat := fun hab => h (BitVec.eq_of_toNat_eq hab)
    simp only [seqAhead, BitVec.toNat_sub]
    omega

/-! ## Verdicts (R57 to R59) -/

section
variable {t : Tracking} {w : Nat} {q : Seq}

/-- A position ahead of the lead by less than W is a candidate. -/
theorem Tracking.judge_of_ahead (h1 : 1 ≤ seqAhead q t.lead) (hw : seqAhead q t.lead < w) :
    t.judge w q = .candidate (t.destination q) := by
  simp [Tracking.judge, h1, hw]

/-- Inside the window nothing is ahead of the lead. -/
theorem not_ahead_of_behind {l : Seq} (hw : w ≤ 128) (hb : seqAhead l q < w) :
    ¬ (1 ≤ seqAhead q l ∧ seqAhead q l < w) := by
  obtain ⟨h0, -⟩ | hturn := seqAhead_turn q l <;> omega

/-- At an OPEN position an arrival is a candidate. -/
theorem Tracking.judge_of_vacant (hw : w ≤ 128) (hb : seqAhead t.lead q < w)
    (hp : t.window[seqAhead t.lead q]? = some .vacant) : t.judge w q = .candidate (t.destination q) := by
  simp only [Tracking.judge, if_neg (not_ahead_of_behind hw hb), if_pos hb, List.getD_eq_getElem?_getD, hp,
    Option.getD_some]

/-- At an ACCEPTED position an arrival is a duplicate. -/
theorem Tracking.judge_of_accepted (hw : w ≤ 128) (hb : seqAhead t.lead q < w)
    (hp : t.window[seqAhead t.lead q]? = some .accepted) : t.judge w q = .duplicate := by
  simp only [Tracking.judge, if_neg (not_ahead_of_behind hw hb), if_pos hb, List.getD_eq_getElem?_getD, hp,
    Option.getD_some]

/-- At a WAIVED position an arrival is late. -/
theorem Tracking.judge_of_waived (hw : w ≤ 128) (hb : seqAhead t.lead q < w)
    (hp : t.window[seqAhead t.lead q]? = some .waived) : t.judge w q = .late := by
  simp only [Tracking.judge, if_neg (not_ahead_of_behind hw hb), if_pos hb, List.getD_eq_getElem?_getD, hp,
    Option.getD_some]

theorem Tracking.judge_of_outside (ha : w ≤ seqAhead q t.lead) (hb : w ≤ seqAhead t.lead q) :
    t.judge w q = .outOfWindow := by
  simp [Tracking.judge, show ¬ seqAhead q t.lead < w by omega, show ¬ seqAhead t.lead q < w by omega]

/-- A window position is OPEN, ACCEPTED or WAIVED, and a position outside the window is ahead of it or out of it. -/
theorem Tracking.judge_cases (hw : w ≤ 128) (hlen : t.window.length = w) :
    (1 ≤ seqAhead q t.lead ∧ seqAhead q t.lead < w ∧ t.judge w q = .candidate (t.destination q)) ∨
    (seqAhead t.lead q < w ∧ t.window[seqAhead t.lead q]? = some .vacant ∧ t.judge w q = .candidate (t.destination q)) ∨
    (seqAhead t.lead q < w ∧ t.window[seqAhead t.lead q]? = some .accepted ∧ t.judge w q = .duplicate) ∨
    (seqAhead t.lead q < w ∧ t.window[seqAhead t.lead q]? = some .waived ∧ t.judge w q = .late) ∨
    (w ≤ seqAhead q t.lead ∧ w ≤ seqAhead t.lead q ∧ t.judge w q = .outOfWindow) := by
  by_cases hb : seqAhead t.lead q < w
  · have hget : t.window[seqAhead t.lead q]? = some t.window[seqAhead t.lead q] := List.getElem?_eq_getElem (hlen ▸ hb)
    cases hp : t.window[seqAhead t.lead q] with
    | vacant => exact .inr (.inl ⟨hb, hp ▸ hget, judge_of_vacant hw hb (hp ▸ hget)⟩)
    | accepted => exact .inr (.inr (.inl ⟨hb, hp ▸ hget, judge_of_accepted hw hb (hp ▸ hget)⟩))
    | waived => exact .inr (.inr (.inr (.inl ⟨hb, hp ▸ hget, judge_of_waived hw hb (hp ▸ hget)⟩)))
  · by_cases ha : seqAhead q t.lead < w
    · have h1 : 1 ≤ seqAhead q t.lead := by
        obtain ⟨-, rfl⟩ | hturn := seqAhead_turn q t.lead
        · rw [seqAhead_self] at hb ha
          omega
        · have := seqAhead_lt t.lead q
          omega
      exact .inl ⟨h1, ha, judge_of_ahead h1 ha⟩
    · exact .inr (.inr (.inr (.inr ⟨by omega, by omega, judge_of_outside (by omega) (by omega)⟩)))

end

/-- Settles O27. -/
theorem verdictsByWindowPosition : Obligations.VerdictsByWindowPosition := by
  intro w rogue r c q _ hw
  refine ⟨fun hfresh => ?_, fun t ht hlen => ⟨?_, ?_, ?_, ?_⟩⟩
  · simp only [judge, hfresh, Recovery.reset]
  · intro h
    have hjudge : t.judge w q = .candidate (t.destination q) := by
      obtain ⟨h1, ha⟩ | ⟨hb, hvacant⟩ := h
      · exact Tracking.judge_of_ahead h1 ha
      · exact Tracking.judge_of_vacant hw hb hvacant
    simp only [judge, ht, hjudge]
    rfl
  · intro hb haccepted
    simp only [judge, ht, Tracking.judge_of_accepted hw hb haccepted]
  · intro hb hwaived
    simp only [judge, ht, Tracking.judge_of_waived hw hb hwaived]
  · intro ha hb
    simp only [judge, ht, Tracking.judge_of_outside ha hb]
    rfl

/-- Settles O28. -/
theorem restartFlagResets : Obligations.RestartFlagResets := by
  intro w rogue r c q _ hw
  refine ⟨fun hfresh => by simp only [judge, hfresh, Recovery.reset], fun t ht hlen => ?_⟩
  have hreset {j : Judged} (hj : t.judge w q = j) (hduplicate : j ≠ .duplicate) (hlate : j ≠ .late) :
      judge w rogue r c q true = resetForArrival r c false := by
    simp only [judge, ht, hj]
  have hother {p p' : Pos} (hp : t.window[seqAhead t.lead q]? = some p) (hne : p ≠ p') :
      ¬ (seqAhead t.lead q < w ∧ t.window[seqAhead t.lead q]? = some p') :=
    fun h => hne (Option.some.inj (hp.symm.trans h.2))
  obtain ⟨h1, ha, hj⟩ | ⟨hb, hp, hj⟩ | ⟨hb, hp, hj⟩ | ⟨hb, hp, hj⟩ | ⟨ha, hb, hj⟩ := Tracking.judge_cases (q := q) hw hlen
  · have hb : ¬ seqAhead t.lead q < w := fun hb => not_ahead_of_behind hw hb ⟨h1, ha⟩
    exact (hreset hj nofun nofun).trans ((if_neg fun h => hb h.1).trans (if_neg fun h => hb h.1)).symm
  · exact (hreset hj nofun nofun).trans ((if_neg (hother hp (by decide))).trans
      (if_neg (hother hp (by decide)))).symm
  · refine Eq.trans ?_ (if_pos ⟨hb, hp⟩).symm
    simp only [judge, ht, hj]
  · refine Eq.trans ?_ ((if_neg (hother hp (by decide))).trans (if_pos ⟨hb, hp⟩)).symm
    simp only [judge, ht, hj]
  · have hb : ¬ seqAhead t.lead q < w := Nat.not_lt.mpr hb
    exact (hreset hj nofun nofun).trans ((if_neg fun h => hb h.1).trans (if_neg fun h => hb h.1)).symm

/-! ## The window after an acceptance (R65, R66) -/

theorem advanceWindow_length {w d : Nat} {win : List Pos} (hwin : win.length = w) : (advanceWindow w d win).length = w := by
  simp only [advanceWindow, List.length_take, List.length_append, List.length_cons, List.length_replicate]
  omega

/-- After an advance by `d` the new lead is ACCEPTED, the positions below it down to the old lead are OPEN, and the old
positions stand `d` further down. -/
theorem advanceWindow_getElem? {w d : Nat} (win : List Pos) (hd : 1 ≤ d) {i : Nat} (hi : i < w) :
    (advanceWindow w d win)[i]? = if i = 0 then some .accepted else if i < d then some .vacant else win[i - d]? := by
  simp only [advanceWindow, List.getElem?_take, if_pos hi, List.cons_append]
  cases i with
  | zero => simp
  | succ i =>
    simp only [List.getElem?_cons_succ, List.getElem?_append, List.length_replicate, List.getElem?_replicate]
    have hsub : i - (d - 1) = i + 1 - d := by omega
    by_cases h : i < d - 1
    · simp [h, show i + 1 < d by omega]
    · simp [h, show ¬ i + 1 < d by omega, hsub]

/-- What an acceptance ahead of the lead of a TRACKING record does, but for the IN-ORDER part (R66). -/
theorem accept_of_ahead {w silence now : Nat} {inOrder : Bool} {r : Recovery} {t : Tracking} {q : Seq} {e : Option Held}
    (ht : r.tracking = some t) (h1 : 1 ≤ seqAhead q t.lead) (ha : seqAhead q t.lead < w) :
    accept w silence inOrder now r q e =
      { recov :=
          { r with
            rogue := 0,
            tracking := some
              { lead := q, window := advanceWindow w (seqAhead q t.lead) t.window, silence := silenceFrom now silence,
                ordered := t.ordered.map fun o => (o.accepted q w q e).1 } },
        lost := leavingOpen w (seqAhead q t.lead) t.window,
        released := (t.ordered.map fun o => (o.accepted q w q e).2).getD [] } := by
  simp only [accept, ht, if_pos (And.intro h1 ha)]
  cases t.ordered <;> rfl

/-- What an acceptance at or below the lead of a TRACKING record does, but for the IN-ORDER part (R66). -/
theorem accept_of_not_ahead {w silence now : Nat} {inOrder : Bool} {r : Recovery} {t : Tracking} {q : Seq}
    {e : Option Held} (ht : r.tracking = some t) (ha : ¬ (1 ≤ seqAhead q t.lead ∧ seqAhead q t.lead < w)) :
    accept w silence inOrder now r q e =
      { recov :=
          { r with
            rogue := 0,
            tracking := some
              { lead := t.lead, window := t.window.set (seqAhead t.lead q) .accepted, silence := silenceFrom now silence,
                ordered := t.ordered.map fun o => (o.accepted t.lead w q e).1 } },
        lost := 0,
        released := (t.ordered.map fun o => (o.accepted t.lead w q e).2).getD [] } := by
  simp only [accept, ht, if_neg ha]
  cases t.ordered <;> rfl

/-- Settles O29. -/
theorem acceptanceMovesTheWindow : Obligations.AcceptanceMovesTheWindow := by
  intro w silence now inOrder r q e _ hw
  refine ⟨fun hfresh => ?_, fun t ht hlen => ⟨fun hnone => ?_, fun hsome => ?_, fun h1 ha => ?_, fun hb => ?_⟩⟩
  · simp only [accept, hfresh]
    rfl
  · by_cases ha : 1 ≤ seqAhead q t.lead ∧ seqAhead q t.lead < w
    · simp [accept_of_ahead ht ha.1 ha.2, hnone]
    · simp [accept_of_not_ahead ht ha, hnone]
  · by_cases ha : 1 ≤ seqAhead q t.lead ∧ seqAhead q t.lead < w
    · simp [accept_of_ahead ht ha.1 ha.2, hsome]
    · simp [accept_of_not_ahead ht ha, hsome]
  · rw [accept_of_ahead ht h1 ha]
    refine ⟨advanceWindow w (seqAhead q t.lead) t.window, advanceWindow_length hlen, rfl, ?_, fun i hi =>
      advanceWindow_getElem? t.window h1 hi⟩
    simp only [leavingOpen, List.count_eq_length_filter]
    rfl
  · rw [accept_of_not_ahead ht (not_ahead_of_behind hw hb)]
    exact ⟨rfl, rfl⟩

end Sys2Proof.Machine
end

section
set_option Elab.async false
/-! The hold list of an IN-ORDER record: joining, the run from N, the push, the expiry, and the law that ties it to the window
(R76, R77, R82 to R91). -/

namespace Sys2Proof.Machine

/-! ## The run from N (R84) -/

theorem releaseRun_nil (n : Seq) : releaseRun n [] = (n, [], []) := rfl

theorem releaseRun_of_eq {n : Seq} {h : Held} (hs : List Held) (hn : h.seq = n) :
    releaseRun n (h :: hs) =
      ((releaseRun (n + 1) hs).1, (releaseRun (n + 1) hs).2.1, h :: (releaseRun (n + 1) hs).2.2) := by
  simp [releaseRun, hn]

theorem releaseRun_of_ne {n : Seq} {h : Held} (hs : List Held) (hn : h.seq ≠ n) :
    releaseRun n (h :: hs) = (n, h :: hs, []) := by
  simp [releaseRun, hn]

/-- The frames that leave and those that stay make up the list, in its order. -/
theorem releaseRun_append (n : Seq) (hs : List Held) : (releaseRun n hs).2.2 ++ (releaseRun n hs).2.1 = hs := by
  induction hs generalizing n with
  | nil => rfl
  | cons h hs ih =>
    by_cases hn : h.seq = n
    · rw [releaseRun_of_eq hs hn, List.cons_append, ih]
    · rw [releaseRun_of_ne hs hn, List.nil_append]

theorem ofNat_succ_add (n : Seq) (i : Nat) : n + 1 + BitVec.ofNat 16 i = n + BitVec.ofNat 16 (i + 1) := by
  rw [BitVec.ofNat_add, BitVec.add_assoc, BitVec.add_comm (BitVec.ofNat 16 i)]
  rfl

/-- The frames that leave stand without a gap from N up, and N passes the last. -/
theorem releaseRun_seq (n : Seq) (hs : List Held) :
    (releaseRun n hs).1 = n + BitVec.ofNat 16 (releaseRun n hs).2.2.length ∧
      ∀ i h, (releaseRun n hs).2.2[i]? = some h → h.seq = n + BitVec.ofNat 16 i := by
  induction hs generalizing n with
  | nil => simp [releaseRun_nil]
  | cons h hs ih =>
    by_cases hn : h.seq = n
    · obtain ⟨hnxt, hseq⟩ := ih (n + 1)
      rw [releaseRun_of_eq hs hn]
      refine ⟨?_, fun i x hx => ?_⟩
      · rw [List.length_cons, ← ofNat_succ_add]
        exact hnxt
      · cases i with
        | zero =>
          obtain rfl : h = x := by simpa using hx
          simpa using hn
        | succ i => rw [← ofNat_succ_add]; exact hseq i x (by simpa using hx)
    · simp [releaseRun_of_ne hs hn]

/-- The frame that stays at the head is not at N. -/
theorem releaseRun_head (n : Seq) (hs : List Held) :
    ∀ h, (releaseRun n hs).2.1.head? = some h → h.seq ≠ (releaseRun n hs).1 := by
  induction hs generalizing n with
  | nil => simp [releaseRun_nil]
  | cons h hs ih =>
    by_cases hn : h.seq = n
    · rw [releaseRun_of_eq hs hn]
      exact ih (n + 1)
    · simpa [releaseRun_of_ne hs hn] using hn

/-! ## Deadlines (R86) -/

/-- The earliest deadline is that of a held frame, and no held frame's is earlier. -/
theorem earliest_eq_some {hs : List Held} {d : Nat} :
    earliest hs = some d ↔ (∃ h ∈ hs, h.deadline = d) ∧ ∀ h ∈ hs, d ≤ h.deadline := by
  induction hs generalizing d with
  | nil => simp [earliest]
  | cons h hs ih =>
    cases he : earliest hs with
    | none =>
      obtain rfl := earliest_eq_none.mp he
      simp only [earliest, Option.some.injEq, List.mem_singleton, exists_eq_left, forall_eq]
      omega
    | some e =>
      obtain ⟨⟨x, hx, rfl⟩, hle⟩ := ih.mp he
      simp only [earliest, he, Option.some.injEq, List.mem_cons, exists_eq_or_imp, forall_eq_or_imp]
      constructor
      · rintro rfl
        refine ⟨?_, Nat.min_le_left _ _, fun y hy => (Nat.min_le_right _ _).trans (hle y hy)⟩
        by_cases hmin : h.deadline ≤ x.deadline
        · exact .inl (by omega)
        · exact .inr ⟨x, hx, by omega⟩
      · rintro ⟨rfl | ⟨y, hy, rfl⟩, hd, hall⟩
        · exact Nat.min_eq_left (hall x hx)
        · have := hle y hy
          have := hall x hx
          omega

/-! ## Joining (R77) -/

theorem joinHold_perm (n : Seq) (h : Held) (hs : List Held) : (joinHold n h hs).Perm (h :: hs) := by
  induction hs with
  | nil => exact .refl _
  | cons x xs ih =>
    simp only [joinHold]
    split
    · exact .refl _
    · exact (ih.cons x).trans (.swap h x xs)

theorem mem_joinHold {n : Seq} {h x : Held} {hs : List Held} : x ∈ joinHold n h hs ↔ x = h ∨ x ∈ hs := by
  rw [(joinHold_perm n h hs).mem_iff, List.mem_cons]

theorem seqAhead_inj {a b n : Seq} (h : seqAhead a n = seqAhead b n) : a = b := by
  have : a - n = b - n := BitVec.eq_of_toNat_eq h
  exact (BitVec.sub_left_inj n).mp this

/-- A frame of a sequence that is not held joins in order. -/
theorem joinHold_ascends {n : Seq} {h : Held} {hs : List Held} (hs_asc : (hs.map fun x => seqAhead x.seq n).Pairwise (· < ·))
    (hne : ∀ x ∈ hs, x.seq ≠ h.seq) : ((joinHold n h hs).map fun x => seqAhead x.seq n).Pairwise (· < ·) := by
  induction hs with
  | nil => simp [joinHold]
  | cons x xs ih =>
    rw [List.map_cons, List.pairwise_cons] at hs_asc
    obtain ⟨hx, hxs⟩ := hs_asc
    simp only [joinHold]
    split
    · rename_i hlt
      rw [List.map_cons, List.map_cons, List.pairwise_cons, List.pairwise_cons]
      refine ⟨?_, hx, hxs⟩
      simp only [List.mem_cons, forall_eq_or_imp]
      exact ⟨hlt, fun p hp => hlt.trans (hx p hp)⟩
    · rename_i hle
      rw [List.map_cons, List.pairwise_cons]
      refine ⟨fun p hp => ?_, ih hxs fun y hy => hne y (.tail x hy)⟩
      obtain ⟨y, hy, rfl⟩ := List.mem_map.mp hp
      obtain rfl | hy := mem_joinHold.mp hy
      · have : seqAhead x.seq n ≠ seqAhead y.seq n := fun heq => hne x (.head xs) (seqAhead_inj heq)
        omega
      · exact hx _ (List.mem_map_of_mem hy)

/-! ## The frames whose deadline has come (R87) -/

/-- Nothing is taken while every deadline lies ahead. -/
theorem splitExpired_of_forall {now : Nat} {hs : List Held} (h : ∀ x ∈ hs, now < x.deadline) :
    splitExpired now hs = ([], hs) := by
  have htake : (hs.reverse.takeWhile fun x => decide (now < x.deadline)) = hs.reverse :=
    List.takeWhile_eq_self_iff.mpr (by simpa using h)
  simp [splitExpired, htake]

/-- The highest frame whose deadline has come is the last of those that leave. -/
theorem splitExpired_of_append {now : Nat} {pre post : List Held} {f : Held} (hf : f.deadline ≤ now)
    (hpost : ∀ x ∈ post, now < x.deadline) : splitExpired now (pre ++ f :: post) = (pre ++ [f], post) := by
  have htake : ((pre ++ f :: post).reverse.takeWhile fun x => decide (now < x.deadline)) = post.reverse := by
    rw [List.reverse_append, List.reverse_cons, List.append_assoc, List.takeWhile_append_of_pos (by simpa using hpost)]
    simp [Nat.not_lt.mpr hf]
  have hsplit : pre ++ f :: post = (pre ++ [f]) ++ post := by simp
  have hlen : (pre ++ f :: post).length - post.reverse.length = (pre ++ [f]).length := by
    simp only [List.length_append, List.length_cons, List.length_reverse, List.length_nil]
    omega
  rw [splitExpired, htake, hlen, hsplit, List.take_left, List.drop_left]

/-- Either no deadline has come, or there is a highest frame whose deadline has. -/
theorem exists_highest_expired (now : Nat) (hs : List Held) :
    (∀ h ∈ hs, now < h.deadline) ∨
      ∃ pre f post, hs = pre ++ f :: post ∧ f.deadline ≤ now ∧ ∀ h ∈ post, now < h.deadline := by
  induction hs with
  | nil => exact .inl nofun
  | cons x xs ih =>
    obtain hall | ⟨pre, f, post, rfl, hf, hpost⟩ := ih
    · by_cases hx : x.deadline ≤ now
      · exact .inr ⟨[], x, xs, rfl, hx, hall⟩
      · refine .inl fun h hh => ?_
        obtain rfl | hh := List.mem_cons.mp hh
        · exact Nat.lt_of_not_le hx
        · exact hall h hh
    · exact .inr ⟨x :: pre, f, post, rfl, hf, hpost⟩

theorem expireHold_of_forall {now : Nat} {t : Tracking} {o : Ordered} (h : ∀ x ∈ o.held, now < x.deadline) :
    expireHold now t o = (t, 0, []) := by
  rw [expireHold, splitExpired_of_forall h]
  rfl

theorem expireHold_of_append {now : Nat} {t : Tracking} {o : Ordered} {pre post : List Held} {f : Held}
    (hheld : o.held = pre ++ f :: post) (hf : f.deadline ≤ now) (hpost : ∀ x ∈ post, now < x.deadline) :
    expireHold now t o =
      ({ t with
          window := waiveBelow t.lead o.nxt f.seq t.window,
          ordered := some
            { nxt := (releaseRun (f.seq + 1) post).1, held := (releaseRun (f.seq + 1) post).2.1,
              timer := earliest (releaseRun (f.seq + 1) post).2.1 } },
        t.window.count .vacant - (waiveBelow t.lead o.nxt f.seq t.window).count .vacant,
        (pre ++ [f]) ++ (releaseRun (f.seq + 1) post).2.2) := by
  have hsplit : splitExpired now o.held = (pre ++ [f], post) := hheld ▸ splitExpired_of_append hf hpost
  simp only [expireHold, hsplit, List.getLast?_concat]

theorem waiveBelow_length (lead n f : Seq) (win : List Pos) : (waiveBelow lead n f win).length = win.length := by
  simp [waiveBelow]

theorem waiveBelow_getElem? (lead n f : Seq) (win : List Pos) (i : Nat) :
    (waiveBelow lead n f win)[i]? = win[i]?.map fun p =>
      if p = .vacant ∧ seqAhead (lead - BitVec.ofNat 16 i) n < seqAhead f n then .waived else p := by
  simp [waiveBelow, List.getElem?_mapIdx]

/-- Positions are waived, never opened. -/
theorem waiveBelow_count_vacant (lead n f : Seq) (win : List Pos) :
    (waiveBelow lead n f win).count .vacant ≤ win.count .vacant := by
  unfold waiveBelow
  induction win generalizing lead with
  | nil => simp
  | cons p win ih =>
    rw [List.mapIdx_cons, List.count_cons, List.count_cons]
    have htail := ih (lead - 1)
    have hshift (i : Nat) : lead - BitVec.ofNat 16 (i + 1) = lead - 1 - BitVec.ofNat 16 i := by
      rw [BitVec.ofNat_add, BitVec.sub_sub, BitVec.add_comm]
      rfl
    simp only [hshift]
    refine Nat.add_le_add htail ?_
    split
    · simp
    · exact Nat.le_refl _

end Sys2Proof.Machine
end

section
set_option Elab.async false
/-! The law of an IN-ORDER record: an acceptance and a hold expiry keep it (R76, R77, R82, R86, R87, R90). -/

namespace Sys2Proof.Machine

/-! ## Places in the window (R46, R47) -/

theorem seqAhead_eq_mod (a b : Seq) : seqAhead a b = (a.toNat + 65536 - b.toNat) % 65536 := by
  have := a.isLt
  have := b.isLt
  rw [seqAhead, BitVec.toNat_sub]
  omega

section
variable {t : Tracking} {w : Nat} {q : Seq}

/-- The place of a position, counted from the lead's place `w - 1`. -/
theorem Tracking.place_eq_mod (hw1 : 1 ≤ w) (hw : w ≤ 128) :
    t.place w q = (q.toNat + 65535 + w - t.lead.toNat) % 65536 := by
  have hq := q.isLt
  have hl := t.lead.isLt
  rw [Tracking.place, seqAhead_eq_mod, BitVec.toNat_add, BitVec.toNat_sub, BitVec.toNat_ofNat,
    show (1 : Seq).toNat = 1 from rfl]
  omega

/-- The positions of the window, from its bottom at place 0 to the lead at place `w - 1`. -/
theorem Tracking.place_sub {i : Nat} (hi : i < w) (hw : w ≤ 128) : t.place w (t.lead - BitVec.ofNat 16 i) = w - 1 - i := by
  have hl := t.lead.isLt
  rw [Tracking.place_eq_mod (by omega) hw, BitVec.toNat_sub, BitVec.toNat_ofNat]
  omega

/-- A position ahead of the lead stands above place `w - 1`. -/
theorem Tracking.place_of_ahead (hw1 : 1 ≤ w) (hw : w ≤ 128) (ha : seqAhead q t.lead < w) :
    t.place w q = w - 1 + seqAhead q t.lead := by
  have hq := q.isLt
  have hl := t.lead.isLt
  rw [seqAhead_eq_mod] at *
  rw [Tracking.place_eq_mod hw1 hw]
  omega

theorem Tracking.place_of_behind (hw : w ≤ 128) (hb : seqAhead t.lead q < w) :
    t.place w q = w - 1 - seqAhead t.lead q := by
  have hq := q.isLt
  have hl := t.lead.isLt
  rw [seqAhead_eq_mod] at *
  rw [Tracking.place_eq_mod (by omega) hw]
  omega

theorem Tracking.place_add {d : Nat} (hw1 : 1 ≤ w) (hw : w ≤ 128) (hd : d ≤ 128) :
    t.place w (t.lead + BitVec.ofNat 16 d) = w - 1 + d := by
  have hl := t.lead.isLt
  rw [Tracking.place_eq_mod hw1 hw, BitVec.toNat_add, BitVec.toNat_ofNat]
  omega

/-- When the lead has moved up by `d`, the window bottom stands at old place `d`. -/
theorem Tracking.place_bottom {d : Nat} (hw1 : 1 ≤ w) (hw : w ≤ 128) (hd : d ≤ 128) :
    t.place w (t.lead + BitVec.ofNat 16 d - BitVec.ofNat 16 w + 1) = d := by
  have hl := t.lead.isLt
  rw [Tracking.place_eq_mod hw1 hw, BitVec.toNat_add, BitVec.toNat_sub, BitVec.toNat_add, BitVec.toNat_ofNat,
    BitVec.toNat_ofNat, show (1 : Seq).toNat = 1 from rfl]
  omega

theorem seqAhead_succ {n : Seq} (hq : seqAhead q n < 65535) : seqAhead (q + 1) n = seqAhead q n + 1 := by
  have hq' := q.isLt
  have hn := n.isLt
  rw [seqAhead_eq_mod] at *
  rw [seqAhead_eq_mod, BitVec.toNat_add, show (1 : Seq).toNat = 1 from rfl]
  omega

/-- How far `q` is ahead of a position not above it. -/
theorem seqAhead_of_le {n b : Seq} (h : seqAhead n b ≤ seqAhead q b) : seqAhead q n = seqAhead q b - seqAhead n b := by
  have hq := q.isLt
  have hn := n.isLt
  have hb := b.isLt
  rw [seqAhead_eq_mod, seqAhead_eq_mod] at h
  rw [seqAhead_eq_mod, seqAhead_eq_mod, seqAhead_eq_mod]
  omega

theorem Tracking.place_succ (hq : t.place w q < 65535) : t.place w (q + 1) = t.place w q + 1 := seqAhead_succ hq

theorem Tracking.place_inj {p : Seq} (h : t.place w p = t.place w q) : p = q := seqAhead_inj h

theorem Tracking.seqAhead_eq {n : Seq} (h : t.place w n ≤ t.place w q) : seqAhead q n = t.place w q - t.place w n :=
  seqAhead_of_le h

/-- When the lead moves up by `d`, what stands at or above place `d` moves down by `d`. -/
theorem Tracking.place_moved {t' : Tracking} {d : Nat} (hw1 : 1 ≤ w) (hw : w ≤ 128) (hd : d < 65536)
    (hlead : t'.lead = t.lead + BitVec.ofNat 16 d) (hq : d ≤ t.place w q) : t'.place w q = t.place w q - d := by
  have hq' := q.isLt
  have hl := t.lead.isLt
  rw [Tracking.place_eq_mod hw1 hw] at hq
  rw [Tracking.place_eq_mod hw1 hw, Tracking.place_eq_mod hw1 hw, hlead, BitVec.toNat_add, BitVec.toNat_ofNat]
  omega

end

/-! ## The law before the frames that follow N leave -/

/-- The law of an IN-ORDER record but that a frame may be held at `n` itself, and that neither N nor the timer is set (R76, R77):
what an acceptance and a hold expiry make of it before the run from N (R84). -/
structure Tracking.Queued (t : Tracking) (w : Nat) (n : Seq) (hs : List Held) : Prop where
  next : t.place w n ≤ w
  below : ∀ i < w, w - 1 - i < t.place w n → t.window[i]? ≠ some .vacant
  above : ∀ i < w, t.place w n ≤ w - 1 - i →
    t.window[i]? = some .vacant ∨ (t.window[i]? = some .accepted ∧ ∃ h ∈ hs, h.seq = t.lead - BitVec.ofNat 16 i)
  held : ∀ h ∈ hs, t.place w n ≤ t.place w h.seq ∧ t.place w h.seq < w ∧
    t.window[w - 1 - t.place w h.seq]? = some .accepted
  ascends : (hs.map fun h => t.place w h.seq).Pairwise (· < ·)

section
variable {t : Tracking} {w : Nat} {n : Seq} {hs : List Held}

/-- Frames in ascending places above `a` and below `b` are at most `b - a - 1`. -/
theorem length_le_of_places {l : List Nat} {a b : Nat} (hasc : l.Pairwise (· < ·)) (hl : ∀ x ∈ l, a < x ∧ x < b) :
    l.length ≤ b - a - 1 := by
  have hnodup : l.Nodup := hasc.imp Nat.ne_of_lt
  have hsub : l.toFinset ⊆ Finset.Ioo a b := fun x hx => Finset.mem_Ioo.mpr (hl x (List.mem_toFinset.mp hx))
  have hcard := Finset.card_le_card hsub
  rwa [List.toFinset_card_of_nodup hnodup, Nat.card_Ioo] at hcard

/-- An order by places is the order from a position below all of them. -/
theorem Tracking.pairwise_place_iff (hn : ∀ h ∈ hs, t.place w n ≤ t.place w h.seq) :
    (hs.map fun h => t.place w h.seq).Pairwise (· < ·) ↔ (hs.map fun h => seqAhead h.seq n).Pairwise (· < ·) := by
  rw [List.pairwise_map, List.pairwise_map]
  refine List.Pairwise.iff_of_mem fun {x y} hx hy => ?_
  rw [Tracking.seqAhead_eq (hn x hx), Tracking.seqAhead_eq (hn y hy)]
  have := hn x hx
  have := hn y hy
  omega

/-- With no frame held at N, the law holds. -/
theorem Tracking.Queued.orderOk (h : t.Queued w n hs) (hhead : ∀ x ∈ hs, x.seq ≠ n) :
    t.OrderOk { nxt := n, held := hs, timer := earliest hs } w := by
  have hlt : ∀ x ∈ hs, t.place w n < t.place w x.seq := fun x hx =>
    Nat.lt_of_le_of_ne (h.held x hx).1 fun heq => hhead x hx (Tracking.place_inj heq.symm)
  refine ⟨h.next, h.below, h.above, fun x hx => ⟨hlt x hx, (h.held x hx).2⟩, ?_, ?_, rfl⟩
  · exact (Tracking.pairwise_place_iff fun x hx => (h.held x hx).1).mp h.ascends
  · have hle := length_le_of_places (a := t.place w n) (b := w) h.ascends fun p hp => by
      obtain ⟨x, hx, rfl⟩ := List.mem_map.mp hp
      exact ⟨hlt x hx, (h.held x hx).2.1⟩
    rw [List.length_map] at hle
    exact hle.trans (by omega)

/-- A frame held at N leaves, and N passes it (R84). -/
theorem Tracking.Queued.release {x : Held} (h : t.Queued w n (x :: hs)) (hx : x.seq = n) (hw : w ≤ 128) :
    t.Queued w (n + 1) hs := by
  obtain ⟨-, hlt, haccepted⟩ := h.held x (.head hs)
  rw [hx] at hlt haccepted
  have hsucc : t.place w (n + 1) = t.place w n + 1 := Tracking.place_succ (by omega)
  have hasc := h.ascends
  rw [List.map_cons, List.pairwise_cons, hx] at hasc
  obtain ⟨hfirst, hrest⟩ := hasc
  refine ⟨by omega, fun i hi hbelow => ?_, fun i hi habove => ?_, fun y hy => ?_, hrest⟩
  · by_cases heq : w - 1 - i = t.place w n
    · have : w - 1 - t.place w n = i := by omega
      rw [← this, haccepted]
      simp
    · exact h.below i hi (by omega)
  · refine (h.above i hi (by omega)).imp id fun ⟨hacc, y, hy, hseq⟩ => ⟨hacc, y, ?_, hseq⟩
    refine (List.mem_cons.mp hy).resolve_left fun heq => ?_
    have hplace := Tracking.place_sub (t := t) hi hw
    rw [← hseq, heq, hx] at hplace
    omega
  · have := hfirst _ (List.mem_map_of_mem hy)
    exact ⟨by omega, (h.held y (.tail x hy)).2⟩

/-- Once the frames that follow N have left, the law holds (R84, R86). -/
theorem Tracking.Queued.run (h : t.Queued w n hs) (hw : w ≤ 128) :
    t.OrderOk
      { nxt := (releaseRun n hs).1, held := (releaseRun n hs).2.1, timer := earliest (releaseRun n hs).2.1 } w := by
  induction hs generalizing n with
  | nil => exact h.orderOk nofun
  | cons x xs ih =>
    by_cases hx : x.seq = n
    · rw [releaseRun_of_eq xs hx]
      exact ih (h.release hx hw)
    · rw [releaseRun_of_ne xs hx]
      have hasc := h.ascends
      rw [List.map_cons, List.pairwise_cons] at hasc
      refine h.orderOk fun y hy heq => ?_
      obtain rfl | hy := List.mem_cons.mp hy
      · exact hx heq
      · have hxy := hasc.1 _ (List.mem_map_of_mem hy)
        have := (h.held x (.head xs)).1
        rw [heq] at hxy
        omega

end

/-! ## Acceptances (R64 to R66, R82, R90) -/

/-- A candidate at a TRACKING record stands ahead of the lead or at an OPEN position, and its destination is that of R79. -/
theorem Tracking.judge_candidate {t : Tracking} {w : Nat} {q : Seq} {v : Verdict} (hw : w ≤ 128) (hlen : t.window.length = w)
    (h : t.judge w q = .candidate v) :
    v = t.destination q ∧ (1 ≤ seqAhead q t.lead ∧ seqAhead q t.lead < w ∨
      seqAhead t.lead q < w ∧ t.window[seqAhead t.lead q]? = some .vacant) := by
  obtain ⟨h1, ha, hj⟩ | ⟨hb, hp, hj⟩ | ⟨-, -, hj⟩ | ⟨-, -, hj⟩ | ⟨-, -, hj⟩ := Tracking.judge_cases (q := q) hw hlen <;>
    rw [hj] at h
  · exact ⟨(Judged.candidate.inj h).symm, .inl ⟨h1, ha⟩⟩
  · exact ⟨(Judged.candidate.inj h).symm, .inr ⟨hb, hp⟩⟩
  · cases h
  · cases h
  · cases h

theorem Tracking.destination_eq_hold {t : Tracking} {o : Ordered} {q : Seq} (ho : t.ordered = some o) :
    t.destination q = .hold ↔ q ≠ o.nxt := by
  by_cases h : q = o.nxt <;> simp [Tracking.destination, ho, h]

theorem Tracking.destination_eq_deliver {t : Tracking} {o : Ordered} {q : Seq} (ho : t.ordered = some o) :
    t.destination q = .deliver ↔ q = o.nxt := by
  by_cases h : q = o.nxt <;> simp [Tracking.destination, ho, h]

/-- The window of `t'` is that of `t` moved up by `d`, with `q`, an OPEN position or one ahead of the lead, ACCEPTED at
index `i`. -/
structure Tracking.Moves (t t' : Tracking) (w : Nat) (q : Seq) (d i : Nat) : Prop where
  lead : t'.lead = t.lead + BitVec.ofNat 16 d
  advance : d < w
  index : i < w
  seq : q = t'.lead - BitVec.ofNat 16 i
  place : t.place w q = w - 1 + d - i
  window : ∀ j < w, t'.window[j]? = if j = i then some .accepted else if j < d then some .vacant else t.window[j - d]?
  fresh : 1 ≤ d ∧ i = 0 ∨ d = 0 ∧ t.window[i]? = some .vacant

theorem sub_seqAhead (a b : Seq) : a - BitVec.ofNat 16 (seqAhead a b) = b := by
  rw [seqAhead, BitVec.ofNat_toNat, BitVec.setWidth_eq, sub_sub_cancel]

theorem add_seqAhead (a b : Seq) : b + BitVec.ofNat 16 (seqAhead a b) = a := by
  rw [seqAhead, BitVec.ofNat_toNat, BitVec.setWidth_eq, BitVec.add_comm, BitVec.sub_add_cancel]

/-- What the recording of a candidate does to a TRACKING record. -/
theorem accept_moves {w silence now : Nat} {inOrder : Bool} {r : Recovery} {t : Tracking} {q : Seq} {e : Option Held}
    {v : Verdict} (hw : w ≤ 128) (ht : r.tracking = some t) (hlen : t.window.length = w)
    (hcandidate : t.judge w q = .candidate v) :
    ∃ t' d i, (accept w silence inOrder now r q e).recov.tracking = some t' ∧ t.Moves t' w q d i ∧
      t'.lead = (if 1 ≤ seqAhead q t.lead ∧ seqAhead q t.lead < w then q else t.lead) ∧
      t'.ordered = t.ordered.map (fun o => (o.accepted t'.lead w q e).1) ∧
      (accept w silence inOrder now r q e).released = (t.ordered.map fun o => (o.accepted t'.lead w q e).2).getD [] := by
  obtain ⟨-, ⟨h1, ha⟩ | ⟨hb, hp⟩⟩ := Tracking.judge_candidate hw hlen hcandidate
  · rw [accept_of_ahead ht h1 ha]
    refine ⟨_, seqAhead q t.lead, 0, rfl, ⟨(add_seqAhead q t.lead).symm, ha, by omega, by simp, ?_, fun j hj => ?_,
      .inl ⟨h1, rfl⟩⟩, by simp [h1, ha], rfl, rfl⟩
    · exact Tracking.place_of_ahead (by omega) hw ha
    · exact advanceWindow_getElem? t.window h1 hj
  · have hahead := not_ahead_of_behind hw hb
    rw [accept_of_not_ahead ht hahead]
    refine ⟨_, 0, seqAhead t.lead q, rfl, ⟨by simp, by omega, hb, (sub_seqAhead t.lead q).symm, ?_, fun j hj => ?_,
      .inr ⟨rfl, hp⟩⟩, by rw [if_neg hahead], rfl, rfl⟩
    · exact Tracking.place_of_behind hw hb
    · simp only [List.getElem?_set, hlen, hb, if_true, Nat.not_lt_zero, if_false, Nat.sub_zero]
      exact if_congr eq_comm rfl rfl

section
variable {t t' : Tracking} {o : Ordered} {w d i : Nat} {q n : Seq} {hs : List Held}

theorem Tracking.Moves.place_eq (h : t.Moves t' w q d i) (hw : w ≤ 128) {p : Seq} (hp : d ≤ t.place w p) :
    t'.place w p = t.place w p - d :=
  Tracking.place_moved (by have := h.advance; omega) hw (by have := h.advance; omega) h.lead hp

theorem Tracking.Moves.sub_eq (h : t.Moves t' w q d i) {j : Nat} (hd : d ≤ j) :
    t.lead - BitVec.ofNat 16 (j - d) = t'.lead - BitVec.ofNat 16 j := by
  have hl := t.lead.isLt
  rw [h.lead]
  apply BitVec.eq_of_toNat_eq
  simp only [BitVec.toNat_sub, BitVec.toNat_add, BitVec.toNat_ofNat]
  omega

/-- The law after an acceptance, before the run: N stands at old place `k`, having passed nothing but places below the new
bottom and the accepted position, which is behind N or held; and what is held stands from N up. -/
theorem Tracking.Moves.queued (h : t.Moves t' w q d i) (hok : t.OrderOk o w) (hw : w ≤ 128)
    (hd : d ≤ t.place w n) (hnext : t.place w o.nxt ≤ t.place w n) (htop : t.place w n ≤ w + d)
    (hpassed : ∀ p, t.place w o.nxt ≤ p → d ≤ p → p < t.place w n → p = t.place w q)
    (hentry : t.place w n ≤ t.place w q → ∃ x ∈ hs, x.seq = q)
    (hheld : ∀ x ∈ hs, (x.seq = q ∨ x ∈ o.held) ∧ t.place w n ≤ t.place w x.seq)
    (hkept : ∀ x ∈ o.held, t.place w n ≤ t.place w x.seq → x ∈ hs)
    (hasc : (hs.map fun x => t.place w x.seq).Pairwise (· < ·)) : t'.Queued w n hs := by
  have hplace := h.place
  have hindex := h.index
  have hadvance := h.advance
  have hbottom := hok.next
  have hn := h.place_eq hw hd
  refine ⟨by omega, fun j hj hbelow => ?_, fun j hj habove => ?_, fun x hx => ?_, ?_⟩
  · rw [h.window j hj]
    split_ifs with hji hjd
    · nofun
    · have := hpassed (w - 1 + d - j) (by omega) (by omega) (by omega)
      omega
    · by_cases hp : w - 1 - (j - d) < t.place w o.nxt
      · exact hok.below (j - d) (by omega) hp
      · have := hpassed (w - 1 - (j - d)) (by omega) (by omega) (by omega)
        omega
  · rw [h.window j hj]
    split_ifs with hji hjd
    · obtain ⟨x, hx, hseq⟩ := hentry (by omega)
      exact .inr ⟨rfl, x, hx, by rw [hseq, h.seq, hji]⟩
    · exact .inl rfl
    · refine (hok.above (j - d) (by omega) (by omega)).imp id fun ⟨hacc, x, hx, hseq⟩ => ⟨hacc, x, hkept x hx ?_, ?_⟩
      · rw [hseq, Tracking.place_sub (by omega) hw]
        omega
      · rw [hseq, h.sub_eq (by omega)]
  · obtain ⟨hmem, hle⟩ := hheld x hx
    have hx' := h.place_eq hw (hd.trans hle)
    have hlt : t.place w x.seq - d < w ∧ t'.window[w - 1 - (t.place w x.seq - d)]? = some .accepted := by
      obtain hseq | hmem := hmem
      · rw [hseq, hplace]
        refine ⟨by omega, ?_⟩
        rw [show w - 1 - (w - 1 + d - i - d) = i by omega, h.window i hindex, if_pos rfl]
      · obtain ⟨-, hlt, hacc⟩ := hok.held x hmem
        refine ⟨by omega, ?_⟩
        rw [h.window _ (by omega), show w - 1 - (t.place w x.seq - d) - d = w - 1 - t.place w x.seq by omega, hacc]
        split_ifs with _ hjd
        · rfl
        · omega
        · rfl
    rw [hx', hn]
    exact ⟨by omega, hlt⟩
  · rw [List.pairwise_map] at hasc ⊢
    refine hasc.imp_of_mem fun {x y} hx hy hxy => ?_
    have hxd := (hheld x hx).2
    have hyd := (hheld y hy).2
    rw [h.place_eq hw (hd.trans hxd), h.place_eq hw (hd.trans hyd)]
    omega

end

/-- On a list in ascending order, the frames below a bound are its first ones. -/
theorem takeWhile_eq_filter_of_ascends {α : Type} {f : α → Nat} {l : List α} (h : (l.map f).Pairwise (· < ·)) (b : Nat) :
    l.takeWhile (fun x => decide (f x < b)) = l.filter (fun x => decide (f x < b)) ∧
      l.drop (l.takeWhile fun x => decide (f x < b)).length = l.filter (fun x => !decide (f x < b)) := by
  induction l with
  | nil => exact ⟨rfl, rfl⟩
  | cons x xs ih =>
    rw [List.map_cons, List.pairwise_cons] at h
    obtain ⟨hx, hxs⟩ := h
    obtain ⟨htake, hdrop⟩ := ih hxs
    by_cases hlt : f x < b
    · simp [hlt, htake ▸ hdrop, htake]
    · have hall : ∀ y ∈ xs, b ≤ f y := fun y hy => (Nat.le_of_not_lt hlt).trans (hx _ (List.mem_map_of_mem hy)).le
      have hempty : xs.filter (fun y => decide (f y < b)) = [] := by simpa using hall
      have hfull : xs.filter (fun y => !decide (f y < b)) = xs := by simpa using hall
      simp [hlt, hempty, hfull]

/-- The hold list with the entry of an acceptance (R77). -/
def Ordered.joined (o : Ordered) (e : Option Held) : List Held :=
  match e with
  | some h => joinHold o.nxt h o.held
  | none => o.held

/-- A held frame below the new window bottom, which a push releases (R90). -/
def Ordered.pushes (o : Ordered) (lead : Seq) (w : Nat) (h : Held) : Bool :=
  decide (w < seqAhead (lead + 1) o.nxt ∧ seqAhead h.seq o.nxt < seqAhead (lead - BitVec.ofNat 16 w + 1) o.nxt)

theorem Ordered.accepted_eq_joined (o : Ordered) (lead : Seq) (w : Nat) (q : Seq) (e : Option Held) :
    o.accepted lead w q e =
      let bottom := lead - BitVec.ofNat 16 w + 1
      let push := w < seqAhead (lead + 1) o.nxt
      let n1 := if push then bottom else o.nxt
      let out1 :=
        if push then (o.joined e).takeWhile fun h => decide (seqAhead h.seq o.nxt < seqAhead bottom o.nxt) else []
      let run := releaseRun (if e.isNone ∧ q = n1 then n1 + 1 else n1) ((o.joined e).drop out1.length)
      ({ nxt := run.1, held := run.2.1, timer := earliest run.2.1 }, out1 ++ run.2.2) := rfl

/-- The IN-ORDER part after an acceptance whose hold list is in order: the frames below the window bottom leave, then those
that follow N (R82, R84, R90). -/
theorem Ordered.accepted_eq {o : Ordered} {lead : Seq} {w : Nat} {q : Seq} {e : Option Held}
    (hasc : ((o.joined e).map fun h => seqAhead h.seq o.nxt).Pairwise (· < ·)) (n : Seq)
    (hn : n = if w < seqAhead (lead + 1) o.nxt then lead - BitVec.ofNat 16 w + 1 else o.nxt) (n' : Seq)
    (hn' : n' = if e.isNone ∧ q = n then n + 1 else n) (run : Seq × List Held × List Held)
    (hrun : run = releaseRun n' ((o.joined e).filter fun h => !o.pushes lead w h)) :
    o.accepted lead w q e =
      ({ nxt := run.1, held := run.2.1, timer := earliest run.2.1 }, (o.joined e).filter (o.pushes lead w) ++ run.2.2) := by
  subst hn hn' hrun
  obtain ⟨htake, hdrop⟩ :=
    takeWhile_eq_filter_of_ascends hasc (seqAhead (lead - BitVec.ofNat 16 w + 1) o.nxt)
  rw [Ordered.accepted_eq_joined]
  by_cases hpush : w < seqAhead (lead + 1) o.nxt
  · have hpushes : o.pushes lead w = fun h => decide (seqAhead h.seq o.nxt < seqAhead (lead - BitVec.ofNat 16 w + 1) o.nxt) := by
      funext h
      simp only [Ordered.pushes, hpush, true_and]
    simp only [hpush, if_true, hpushes, htake ▸ hdrop, htake]
  · have hpushes : o.pushes lead w = fun _ => false := by
      funext h
      simp only [Ordered.pushes, hpush, false_and, decide_false]
    simp only [hpush, if_false, hpushes, List.length_nil, List.drop_zero, Bool.not_false, List.filter_true, List.filter_false,
      List.nil_append]

theorem mem_joined {o : Ordered} {e : Option Held} {x : Held} : x ∈ o.joined e ↔ e = some x ∨ x ∈ o.held := by
  cases e with
  | none => simp [Ordered.joined]
  | some h => simp only [Ordered.joined, mem_joinHold, Option.some.injEq, eq_comm]

section
variable {t t' : Tracking} {o : Ordered} {w d i : Nat} {q : Seq}

/-- No held frame stands at the position of an acceptance. -/
theorem Tracking.Moves.not_held (h : t.Moves t' w q d i) (hok : t.OrderOk o w) : ∀ x ∈ o.held, x.seq ≠ q := by
  intro x hx heq
  have hindex := h.index
  obtain ⟨-, hlt, hacc⟩ := hok.held x hx
  rw [heq, h.place] at hlt hacc
  obtain ⟨h1, h0⟩ | ⟨h0, hvacant⟩ := h.fresh
  · omega
  · rw [show w - 1 - (w - 1 + d - i) = i by omega, hvacant] at hacc
    cases hacc

/-- The position of an acceptance is not behind N. -/
theorem Tracking.Moves.next_le (h : t.Moves t' w q d i) (hok : t.OrderOk o w) : t.place w o.nxt ≤ t.place w q := by
  have hplace := h.place
  have hbottom := hok.next
  have hindex := h.index
  obtain ⟨h1, h0⟩ | ⟨h0, hvacant⟩ := h.fresh
  · omega
  · exact Nat.le_of_not_lt fun hlt => hok.below i hindex (by omega) hvacant

theorem Tracking.Moves.place_bottom (h : t.Moves t' w q d i) (hw1 : 1 ≤ w) (hw : w ≤ 128) :
    t.place w (t'.lead - BitVec.ofNat 16 w + 1) = d := by
  rw [h.lead]
  exact Tracking.place_bottom hw1 hw (by have := h.advance; omega)

/-- The window bottom passes N when the lead moves up by more than N's place (R90). -/
theorem Tracking.Moves.push_iff (h : t.Moves t' w q d i) (hok : t.OrderOk o w) (hw1 : 1 ≤ w) (hw : w ≤ 128) :
    w < seqAhead (t'.lead + 1) o.nxt ↔ t.place w o.nxt < d := by
  have hadvance := h.advance
  have hbottom := hok.next
  have htop : t.place w (t'.lead + 1) = w + d := by
    rw [h.lead, Tracking.place_succ] <;> rw [Tracking.place_add hw1 hw (by omega)] <;> omega
  rw [Tracking.seqAhead_eq (t := t) (w := w) (by omega), htop]
  omega

/-- N after a push, if there is one. -/
theorem Tracking.Moves.place_start (h : t.Moves t' w q d i) (hok : t.OrderOk o w) (hw1 : 1 ≤ w) (hw : w ≤ 128) :
    t.place w (if w < seqAhead (t'.lead + 1) o.nxt then t'.lead - BitVec.ofNat 16 w + 1 else o.nxt) =
      max (t.place w o.nxt) d := by
  have hbottom := h.place_bottom hw1 hw
  rw [ite_cond_congr (propext (h.push_iff hok hw1 hw))]
  split <;> omega

end

/-- The recording of a candidate on a lawful IN-ORDER record: what leaves, and the record up to the run from N. -/
theorem accept_queued {w silence now : Nat} {inOrder : Bool} {r : Recovery} {t : Tracking} {o : Ordered} {q : Seq}
    {e : Option Held} (hw1 : 1 ≤ w) (hw : w ≤ 128) (ht : r.tracking = some t) (ho : t.ordered = some o)
    (hok : t.OrderOk o w) (hlen : t.window.length = w)
    (hjudge : t.judge w q = .candidate (if e.isSome then .hold else .deliver)) (he : ∀ h, e = some h → h.seq = q)
    {lead n n' : Seq} {hs : List Held}
    (hlead : lead = if 1 ≤ seqAhead q t.lead ∧ seqAhead q t.lead < w then q else t.lead)
    (hn : n = if w < seqAhead (lead + 1) o.nxt then lead - BitVec.ofNat 16 w + 1 else o.nxt)
    (hn' : n' = if e.isNone then n + 1 else n) (hhs : hs = (o.joined e).filter fun h => !o.pushes lead w h) :
    ((o.joined e).map fun h => seqAhead h.seq o.nxt).Pairwise (· < ·) ∧
      (accept w silence inOrder now r q e).released = (o.joined e).filter (o.pushes lead w) ++ (releaseRun n' hs).2.2 ∧
      ∃ t', (accept w silence inOrder now r q e).recov.tracking = some t' ∧ t'.lead = lead ∧
        t'.ordered = some
          { nxt := (releaseRun n' hs).1, held := (releaseRun n' hs).2.1, timer := earliest (releaseRun n' hs).2.1 } ∧
        t'.Queued w n' hs := by
  obtain ⟨t', d, i, htrack, hm, hlead', hord, hreleased⟩ :=
    accept_moves (silence := silence) (now := now) (inOrder := inOrder) (e := e) hw ht hlen hjudge
  obtain rfl : t'.lead = lead := hlead'.trans hlead.symm
  obtain ⟨hdest, -⟩ := Tracking.judge_candidate hw hlen hjudge
  rw [ho] at hord hreleased
  have hplace := hm.place
  have hadvance := hm.advance
  have hindex := hm.index
  have hbottom := hok.next
  have hnew := hm.not_held hok
  have hafter := hm.next_le hok
  have hmem := fun x => mem_joined (o := o) (e := e) (x := x)
  have hentry : ∀ h, e = some h → t.place w o.nxt < t.place w q := by
    rintro h rfl
    refine Nat.lt_of_le_of_ne hafter fun heq => ?_
    exact (Tracking.destination_eq_hold ho).mp hdest.symm (Tracking.place_inj heq).symm
  have hdelivered : e = none → q = o.nxt := by
    rintro rfl
    exact (Tracking.destination_eq_deliver ho).mp hdest.symm
  have habove : ∀ x ∈ o.joined e, t.place w o.nxt < t.place w x.seq := by
    intro x hx
    obtain hx | hx := (hmem x).mp hx
    · rw [he x hx]
      exact hentry x hx
    · exact (hok.held x hx).1
  have hasc : ((o.joined e).map fun h => seqAhead h.seq o.nxt).Pairwise (· < ·) := by
    cases e with
    | none => exact hok.ascends
    | some h => exact joinHold_ascends hok.ascends fun x hx => (he h rfl) ▸ hnew x hx
  have hpush := hm.push_iff hok hw1 hw
  have hbottom' := hm.place_bottom hw1 hw
  have hpushes : ∀ x ∈ o.joined e, o.pushes t'.lead w x = true ↔ t.place w x.seq < d := by
    intro x hx
    have hx := habove x hx
    rw [Ordered.pushes, decide_eq_true_iff, hpush]
    by_cases hd : t.place w o.nxt < d
    · rw [Tracking.seqAhead_eq hx.le, Tracking.seqAhead_eq (t := t) (w := w) (n := o.nxt) (by omega), hbottom']
      omega
    · omega
  have hplaceN : t.place w n = max (t.place w o.nxt) d := hn ▸ hm.place_start hok hw1 hw
  have hrun : n' = if e.isNone ∧ q = n then n + 1 else n := by
    rw [hn']
    cases e with
    | some h => rfl
    | none =>
      have hq := hdelivered rfl
      rw [hn, if_neg (hpush.not.mpr (by rw [← hq]; omega)), hq]
      simp
  have hplaceN' : (t.place w q = t.place w o.nxt ∧ t.place w n' = t.place w q + 1) ∨
      (t.place w o.nxt < t.place w q ∧ t.place w n' = max (t.place w o.nxt) d) := by
    rw [hn']
    cases e with
    | some h => exact .inr ⟨hentry h rfl, hplaceN⟩
    | none =>
      have hq := hdelivered rfl
      have hnq : n = q := Tracking.place_inj (t := t) (w := w) (by rw [hplaceN, ← hq]; omega)
      exact .inl ⟨by rw [hq], by simp only [Option.isNone_none, if_true]; rw [hnq, Tracking.place_succ (by omega)]⟩
  have haccepted := Ordered.accepted_eq (q := q) hasc n hn n' hrun _ rfl
  rw [← hhs] at haccepted
  refine ⟨hasc, ?_, t', htrack, rfl, ?_, ?_⟩
  · rw [hreleased, Option.map_some, haccepted, Option.getD_some]
  · rw [hord, Option.map_some, haccepted]
  · have hmem' : ∀ x, x ∈ hs ↔ x ∈ o.joined e ∧ d ≤ t.place w x.seq := by
      intro x
      rw [hhs, List.mem_filter]
      refine and_congr_right fun hx => ?_
      rw [Bool.not_eq_true', ← Bool.not_eq_true, hpushes x hx]
      omega
    have hlevel : ∀ x ∈ hs, t.place w n' ≤ t.place w x.seq := by
      intro x hx
      obtain ⟨hx, hd⟩ := (hmem' x).mp hx
      have := habove x hx
      omega
    refine hm.queued hok hw (by omega) (by omega) (by omega) (fun p _ _ _ => by omega) (fun hle => ?_)
      (fun x hx => ⟨?_, hlevel x hx⟩) (fun x hx hle => ?_) ?_
    · cases e with
      | none =>
        have hq := congrArg (t.place w) (hdelivered rfl)
        omega
      | some h =>
        refine ⟨h, (hmem' h).mpr ⟨(hmem h).mpr (.inl rfl), ?_⟩, he h rfl⟩
        rw [he h rfl]
        omega
    · obtain ⟨hx, -⟩ := (hmem' x).mp hx
      exact ((hmem x).mp hx).imp (he x) id
    · exact (hmem' x).mpr ⟨(hmem x).mpr (.inr hx), by omega⟩
    · have hall := (Tracking.pairwise_place_iff fun x hx => (habove x hx).le).mpr hasc
      rw [List.pairwise_map] at hall ⊢
      exact hall.sublist (hhs ▸ List.filter_sublist)

/-! ## Hold expiries (R87) -/

/-- The record after a hold expiry, before the run. -/
theorem expireHold_queued {t : Tracking} {o : Ordered} {w : Nat} {pre post : List Held} {f : Held} (hw : w ≤ 128)
    (hok : t.OrderOk o w) (hheld : o.held = pre ++ f :: post) (x : Option Ordered) :
    ({ t with window := waiveBelow t.lead o.nxt f.seq t.window, ordered := x } : Tracking).Queued w (f.seq + 1) post := by
  set t' : Tracking := { t with window := waiveBelow t.lead o.nxt f.seq t.window, ordered := x } with ht'
  have hplace (q : Seq) : t'.place w q = t.place w q := rfl
  have hmem : ∀ y ∈ post, y ∈ o.held := fun y hy => by simp [hheld, hy]
  have hf : f ∈ o.held := by simp [hheld]
  obtain ⟨hNf, hfw, hfacc⟩ := hok.held f hf
  have hsucc : t.place w (f.seq + 1) = t.place w f.seq + 1 := Tracking.place_succ (by omega)
  have hasc := (Tracking.pairwise_place_iff fun y hy => (hok.held y hy).1.le).mpr hok.ascends
  rw [hheld, List.map_append, List.map_cons, List.pairwise_append, List.pairwise_cons] at hasc
  obtain ⟨-, ⟨hpost, hascends⟩, hpre⟩ := hasc
  have hwindow (i : Nat) (hi : i < w) : t'.window[i]? = t.window[i]?.map fun p =>
      if p = .vacant ∧ t.place w o.nxt ≤ w - 1 - i ∧ w - 1 - i < t.place w f.seq then .waived else p := by
    rw [ht', waiveBelow_getElem?]
    refine Option.map_congr fun p hp => ?_
    have hi' := Tracking.place_sub (t := t) hi hw
    refine if_congr (and_congr_right fun hvacant => ?_) rfl rfl
    have hle : t.place w o.nxt ≤ w - 1 - i := by
      refine Nat.le_of_not_lt fun hlt => hok.below i hi hlt ?_
      rw [hp, hvacant]
    rw [Tracking.seqAhead_eq (t := t) (w := w) (by omega), Tracking.seqAhead_eq hNf.le, hi']
    omega
  refine ⟨by rw [hplace]; omega, fun i hi hbelow => ?_, fun i hi habove => ?_, fun y hy => ?_, hascends⟩
  · rw [hplace, hsucc] at hbelow
    rw [hwindow i hi]
    by_cases hlt : w - 1 - i < t.place w o.nxt
    · have := hok.below i hi hlt
      simpa [show ¬ t.place w o.nxt ≤ w - 1 - i by omega] using this
    · by_cases heq : w - 1 - i = t.place w f.seq
      · rw [show w - 1 - t.place w f.seq = i by omega] at hfacc
        simp [hfacc]
      · simp only [show t.place w o.nxt ≤ w - 1 - i by omega, show w - 1 - i < t.place w f.seq by omega, and_self, and_true]
        cases t.window[i]? with
        | none => nofun
        | some p => cases p <;> simp
  · rw [hplace, hsucc] at habove
    have hsame : t'.window[i]? = t.window[i]? := by
      rw [hwindow i hi]
      simp [show ¬ w - 1 - i < t.place w f.seq by omega]
    rw [hsame]
    refine (hok.above i hi (by omega)).imp id fun ⟨hacc, y, hy, hseq⟩ => ⟨hacc, y, ?_, hseq⟩
    have hy' := Tracking.place_sub (t := t) hi hw
    rw [← hseq] at hy'
    rw [hheld, List.mem_append, List.mem_cons] at hy
    obtain hy | rfl | hy := hy
    · have := hpre _ (List.mem_map_of_mem hy) _ (.head _)
      omega
    · omega
    · exact hy
  · obtain ⟨-, hyw, hyacc⟩ := hok.held y (hmem y hy)
    have hfy := hpost _ (List.mem_map_of_mem hy)
    rw [hplace, hplace, hsucc, hwindow _ (by omega), hyacc]
    exact ⟨by omega, hyw, rfl⟩

/-- A hold expiry keeps the law. -/
theorem expireHold_orderOk {now : Nat} {t : Tracking} {o : Ordered} {w : Nat} (hw : w ≤ 128) (hok : t.OrderOk o w)
    (ho : t.ordered = some o) : ∀ o', (expireHold now t o).1.ordered = some o' → (expireHold now t o).1.OrderOk o' w := by
  intro o' ho'
  obtain hall | ⟨pre, f, post, hheld, hf, hpost⟩ := exists_highest_expired now o.held
  · rw [expireHold_of_forall hall] at ho' ⊢
    obtain rfl : o = o' := Option.some.inj (ho.symm.trans ho')
    exact hok
  · rw [expireHold_of_append hheld hf hpost] at ho' ⊢
    obtain rfl := Option.some.inj ho'
    exact (expireHold_queued hw hok hheld _).run hw

/-- A take-any begins a record that keeps the law (R65). -/
theorem takeAny_orderOk {w : Nat} {q : Seq} {silence : Option Nat} {x : Option Ordered} (hw1 : 1 ≤ w) (hw : w ≤ 128) :
    ({ lead := q, window := takeAnyWindow w, silence := silence, ordered := x } : Tracking).OrderOk
      { nxt := q + 1, held := [], timer := none } w := by
  set t : Tracking := { lead := q, window := takeAnyWindow w, silence := silence, ordered := x }
  have hnext : t.place w (q + 1) = w := by
    have hlead : t.place w q = w - 1 := by
      have := Tracking.place_sub (t := t) (i := 0) (by omega) hw
      rwa [BitVec.sub_zero] at this
    rw [Tracking.place_succ (by omega), hlead]
    omega
  refine ⟨hnext.le, fun i hi _ => ?_, fun i hi h => ?_, nofun, .nil, Nat.zero_le _, rfl⟩
  · cases i with
    | zero => simp [t, takeAnyWindow]
    | succ i =>
      have hi : i < w - 1 := by omega
      simp [t, takeAnyWindow, hi]
  · rw [hnext] at h
    omega

/-! ## What leaves -/

/-- Settles O31. -/
theorem heldFramesLeaveInOrder : Obligations.HeldFramesLeaveInOrder := by
  refine ⟨fun n hs => ⟨releaseRun_append n hs, (releaseRun_seq n hs).1, (releaseRun_seq n hs).2, releaseRun_head n hs⟩,
    fun n h hs hasc hne => ⟨joinHold_ascends hasc hne, joinHold_perm n h hs⟩,
    fun hs => ⟨earliest_eq_none, fun d => earliest_eq_some⟩, fun w silence now r q e hfresh => ?_,
    fun w silence now inOrder r t o q e hw1 hw ht ho hok hlen hjudge he => ?_, fun now t o => expireHold_of_forall,
    fun now t o pre post f hheld hf hpost => ?_, fun st h => ?_⟩
  · simp [accept, hfresh]
  · obtain ⟨hasc, hreleased, t', htrack, hlead, hord, hqueued⟩ :=
      accept_queued (silence := silence) (now := now) (inOrder := inOrder) (by omega) hw ht ho hok hlen hjudge he rfl rfl
        rfl rfl
    exact ⟨hasc, hreleased, t', htrack, hlead, hord, (hqueued.run hw).ascends⟩
  · rw [expireHold_of_append hheld hf hpost]
    refine ⟨by simp, rfl, rfl, rfl, waiveBelow_length _ _ _ _, fun i p hp => ?_, rfl, waiveBelow_count_vacant _ _ _ _⟩
    rw [waiveBelow_getElem?, hp]
    rfl
  · cases hcls : st.params.cls <;> simp only [releaseMsg, hcls] <;> rfl

end Sys2Proof.Machine
end

section
set_option Elab.async false
/-! Numbers in bytes, and the entries of the staged tables encoded and decoded (R1, R20 to R22). -/

namespace Sys2Proof.Machine

/-! ## Numbers in bytes (R1) -/

@[simp] theorem toBE_length (w n : Nat) : (toBE w n).length = w := by
  induction w with
  | zero => rfl
  | succ w ih => simp [toBE, ih]

theorem beNat_cons (b : Byte) (bs : List Byte) : beNat (b :: bs) = b.toNat * 256 ^ bs.length + beNat bs := by
  have hfoldl (a : Nat) : bs.foldl (fun n b => n * 256 + b.toNat) a = a * 256 ^ bs.length + beNat bs := by
    unfold beNat
    induction bs generalizing a with
    | nil => simp
    | cons c cs ih =>
      rw [List.foldl_cons, List.foldl_cons, ih, ih (0 * 256 + c.toNat), List.length_cons, Nat.pow_succ]
      ring
  rw [beNat, List.foldl_cons, Nat.zero_mul, Nat.zero_add, hfoldl]

theorem beNat_lt (bs : List Byte) : beNat bs < 256 ^ bs.length := by
  induction bs with
  | nil => exact Nat.one_pos
  | cons b bs ih =>
    have hb := b.isLt
    rw [beNat_cons, List.length_cons, Nat.pow_succ]
    nlinarith

/-- A number that fits is read back from its bytes. -/
theorem beNat_toBE {w n : Nat} (h : n < 256 ^ w) : beNat (toBE w n) = n := by
  have hmod (w n : Nat) : beNat (toBE w n) = n % 256 ^ w := by
    induction w with
    | zero => simp [toBE, beNat, Nat.mod_one]
    | succ w ih =>
      rw [toBE, beNat_cons, toBE_length, ih, BitVec.toNat_ofNat, pow_succ 256 w, Nat.mod_mul, Nat.add_comm, Nat.mul_comm]
  rw [hmod, Nat.mod_eq_of_lt h]

/-- Bytes are written back from their number. -/
theorem toBE_beNat (bs : List Byte) : toBE bs.length (beNat bs) = bs := by
  have hstep (b : Byte) (w n k : Nat) : toBE w (k * 256 ^ w + n) = toBE w n := by
    induction w generalizing k with
    | zero => rfl
    | succ w ih =>
      have hshift : k * 256 ^ (w + 1) + n = (k * 256) * 256 ^ w + n := by ring
      rw [toBE, toBE, hshift, ih, Nat.add_comm, Nat.add_mul_div_right _ _ (by positivity)]
      congr 1
      apply BitVec.eq_of_toNat_eq
      simp only [BitVec.toNat_ofNat]
      omega
  induction bs with
  | nil => rfl
  | cons b bs ih =>
    rw [List.length_cons, toBE, beNat_cons, hstep b, ih, Nat.add_comm, Nat.add_mul_div_right _ _ (by positivity),
      Nat.div_eq_of_lt (beNat_lt bs), Nat.zero_add, BitVec.ofNat_toNat, BitVec.setWidth_eq]

/-! ## Codes and flags -/

theorem classOf_classCode (c : Class) : classOf (classCode c) = c := by cases c <;> rfl

theorem classCode_classOf {n : Nat} (h : n ≤ 3) : classCode (classOf n) = n := by interval_cases n <;> rfl

theorem portOf_portCode (p : Port) : portOf (portCode p) = p := by cases p <;> rfl

theorem portCode_portOf {n : Nat} (h : n ≤ 2) : portCode (portOf n) = n := by interval_cases n <;> rfl

theorem portCode_le (p : Port) : portCode p ≤ 2 := by cases p <;> decide

theorem classCode_le (c : Class) : classCode c ≤ 3 := by cases c <;> decide

theorem classSelOf_classSelCode (c : ClassSel) : classSelOf (classSelCode c) = c := by
  rcases c with (_ | _ | _ | _) | _ <;> rfl

theorem classSelCode_range (c : ClassSel) : classSelCode c ≤ 3 ∨ classSelCode c = 15 := by
  rcases c with c | _
  · exact .inl (classCode_le c)
  · exact .inr rfl

theorem classSelCode_classSelOf {n : Nat} (h : n ≤ 3 ∨ n = 15) : classSelCode (classSelOf n) = n := by
  obtain h | rfl := h
  · interval_cases n <;> rfl
  · rfl

theorem flag_true : flag true = 1 := rfl

theorem flag_false : flag false = 0 := rfl

theorem flag_eq {n : Nat} (h : n ≤ 1) : flag (n == 1) = n := by interval_cases n <;> rfl

/-- The six bits of a flag byte whose two low bits are zero (R20). -/
theorem flagByte_bits (o i s p m1 m0 : Bool) :
    let b := BitVec.ofNat 8 (128 * flag o + 64 * flag i + 32 * flag s + 16 * flag p + 8 * flag m1 + 4 * flag m0)
    b.getLsbD 7 = o ∧ b.getLsbD 6 = i ∧ b.getLsbD 5 = s ∧ b.getLsbD 4 = p ∧ b.getLsbD 3 = m1 ∧ b.getLsbD 2 = m0 ∧
      b.toNat % 4 = 0 := by
  revert o i s p m1 m0
  decide

/-- A byte whose two low bits are zero is its six other bits (R20). -/
theorem flagByte_eq (b : Byte) (h : b.toNat % 4 = 0) :
    BitVec.ofNat 8 (128 * flag (b.getLsbD 7) + 64 * flag (b.getLsbD 6) + 32 * flag (b.getLsbD 5) +
      16 * flag (b.getLsbD 4) + 8 * flag (b.getLsbD 3) + 4 * flag (b.getLsbD 2)) = b := by
  revert b
  decide

theorem fin_ofNat_val {n : Nat} [NeZero n] (i : Fin n) : Fin.ofNat n i.val = i := Fin.ext (Nat.mod_eq_of_lt i.isLt)

theorem fin_val_ofNat {n k : Nat} [NeZero n] (h : k < n) : (Fin.ofNat n k).val = k := Nat.mod_eq_of_lt h

/-! ## Directory records (R20, R21) -/

theorem Mode.holdField_eq_zero {m : Mode} (h : m.isInOrder = false) : m.holdField = 0 := by
  cases m with
  | passFirst => rfl
  | inOrder n => cases h

theorem Mode.eq_of_isInOrder (m : Mode) : (if m.isInOrder = true then .inOrder m.holdField else .passFirst) = m := by
  cases m <;> rfl

/-- What an encoded record holds after its flag byte, whatever its direction. -/
theorem encodeDir_tail (r : DirRecord) :
    natAt (encodeDir r) 0 3 = r.key.toNat ∧ byteAt (encodeDir r) 3 = BitVec.ofNat 8 (dirFlags r) ∧
      (∀ i, r.policer = some i → natAt (encodeDir r) 10 1 = i.val) ∧ (r.policer = none → natAt (encodeDir r) 10 1 = 0) ∧
      natAt (encodeDir r) 11 1 = r.pool.val ∧ natAt (encodeDir r) 12 1 = classSelCode r.cls ∧
      natAt (encodeDir r) 13 3 = 0 ∧ (encodeDir r).length = 16 := by
  obtain ⟨key, fields, policer, pool, cls⟩ := r
  have hkey := key.isLt
  have hpool := pool.isLt
  have hcls : classSelCode cls ≤ 15 := by
    rcases cls with c | _
    · exact (classCode_le c).trans (by decide)
    · exact Nat.le_refl 15
  have hone {n : Nat} (h : n ≤ 255) : beNat (toBE 1 n) = n := beNat_toBE (by omega)
  cases fields <;>
  · refine ⟨beNat_toBE (w := 3) hkey, rfl, ?_, ?_, hone (n := pool.val) (by omega),
      hone (n := classSelCode cls) (by omega), rfl,
      by simp [encodeDir]⟩
    · rintro i rfl
      exact hone (n := i.val) (by omega)
    · rintro rfl
      exact hone (n := 0) (by omega)

/-- The range and fill tests of the fields that both directions have. -/
theorem encodeDir_shared (r : DirRecord) (hpoliced : dirPoliced (encodeDir r) = r.policer.isSome) :
    (!dirPoliced (encodeDir r) || decide (natAt (encodeDir r) 10 1 ≤ 63)) = true ∧
      (dirPoliced (encodeDir r) || natAt (encodeDir r) 10 1 == 0) = true ∧
      (if dirPoliced (encodeDir r) then some (Fin.ofNat 64 (natAt (encodeDir r) 10 1)) else none) = r.policer := by
  obtain ⟨-, -, hsome, hnone, -⟩ := encodeDir_tail r
  rw [hpoliced]
  cases hp : r.policer with
  | none => simp [hnone hp]
  | some i =>
    have := i.isLt
    simp [hsome i hp, show i.val ≤ 63 by omega]

theorem decodeDir_encodeDir_inbound {r : DirRecord} {f : InFields} (hr : r.fields = .inbound f) (h : r.wf = true) :
    decodeDir (encodeDir r) = r ∧ dirRangeOk (encodeDir r) = true ∧ dirFillOk (encodeDir r) = true := by
  simp only [DirRecord.wf, hr, within, Bool.and_eq_true, decide_eq_true_eq] at h
  obtain ⟨-, ⟨⟨⟨hw2, hw⟩, hrogue⟩, hsilence⟩, hmode⟩ := h
  have hhold : f.mode.holdField ≤ 4095 ∧ (f.mode.isInOrder = true → 1 ≤ f.mode.holdField) := by
    cases hm : f.mode with
    | passFirst => simp [Mode.holdField, Mode.isInOrder]
    | inOrder h =>
      simp only [hm, Bool.and_eq_true, decide_eq_true_eq] at hmode
      exact ⟨hmode.2, fun _ => hmode.1⟩
  obtain ⟨key, fields, policer, pool, cls⟩ := r
  obtain rfl : fields = .inbound f := hr
  obtain ⟨hkey, hbyte, -, -, hpool, hcls, hfill, -⟩ := encodeDir_tail ⟨key, .inbound f, policer, pool, cls⟩
  obtain ⟨hout, hord, hstrip, hpol, hm1, hm0, hlow⟩ := flagByte_bits false f.mode.isInOrder f.strip policer.isSome false false
  have hflags : dirFlags ⟨key, .inbound f, policer, pool, cls⟩ = 128 * flag false + 64 * flag f.mode.isInOrder +
      32 * flag f.strip + 16 * flag policer.isSome + 8 * flag false + 4 * flag false := by
    simp only [dirFlags, flag_false]
    omega
  rw [← hflags, ← hbyte] at hout hord hstrip hpol hm1 hm0 hlow
  obtain ⟨hprange, hpfill, hpolicer⟩ := encodeDir_shared ⟨key, .inbound f, policer, pool, cls⟩ hpol
  set e := encodeDir ⟨key, .inbound f, policer, pool, cls⟩
  have hwin : natAt e 4 1 = f.window := beNat_toBE (w := 1) (by omega)
  have hrog : natAt e 5 1 = f.rogue := beNat_toBE (w := 1) (by omega)
  have hhld : natAt e 6 2 = f.mode.holdField := beNat_toBE (w := 2) (by omega)
  have hsil : natAt e 8 2 = f.silence := beNat_toBE (w := 2) (by omega)
  refine ⟨?_, ?_, ?_⟩
  · simp only [decodeDir, dirOutbound, dirInOrder, dirStrip, hout, hord, hstrip, hpolicer, hkey, hwin, hrog, hhld, hsil, hpool,
      hcls, fin_ofNat_val, classSelOf_classSelCode, Mode.eq_of_isInOrder, BitVec.ofNat_toNat, BitVec.setWidth_eq]
    rfl
  · have hclass := classSelCode_range cls
    have hpool' := pool.isLt
    simp only [dirRangeOk, dirOutbound, hout, hprange, hwin, hsil, dirInOrder, hord, hhld, hpool, hcls, within,
      Bool.and_eq_true, Bool.or_eq_true, Bool.not_eq_true', decide_eq_true_eq, beq_iff_eq, and_true, if_false,
      Bool.false_eq_true]
    refine ⟨⟨⟨⟨⟨hw2, hw⟩, hsilence⟩, ?_⟩, by omega⟩, hclass⟩
    cases hm : f.mode.isInOrder with
    | false => exact .inl rfl
    | true => exact .inr ⟨hhold.2 hm, hhold.1⟩
  · simp only [dirFillOk, dirOutbound, hout, hlow, hfill, hpfill, dirMask0, dirMask1, hm0, hm1, dirInOrder, hord, hhld,
      Bool.and_eq_true, Bool.or_eq_true, Bool.not_false, beq_iff_eq, and_true, true_and, if_false, Bool.false_eq_true]
    cases hm : f.mode.isInOrder with
    | false => exact .inr (Mode.holdField_eq_zero hm)
    | true => exact .inl rfl

theorem decodeDir_encodeDir_outbound {r : DirRecord} {f : OutFields} (hr : r.fields = .outbound f) (h : r.wf = true) :
    decodeDir (encodeDir r) = r ∧ dirRangeOk (encodeDir r) = true ∧ dirFillOk (encodeDir r) = true := by
  simp only [DirRecord.wf, hr, Bool.and_eq_true, Bool.or_eq_true] at h
  obtain ⟨-, hmask⟩ := h
  obtain ⟨key, fields, policer, pool, cls⟩ := r
  obtain rfl : fields = .outbound f := hr
  obtain ⟨hkey, hbyte, -, -, hpool, hcls, hfill, -⟩ := encodeDir_tail ⟨key, .outbound f, policer, pool, cls⟩
  obtain ⟨hout, hord, hstrip, hpol, hm1, hm0, hlow⟩ := flagByte_bits true false false policer.isSome f.l1 f.l0
  have hflags : dirFlags ⟨key, .outbound f, policer, pool, cls⟩ = 128 * flag true + 64 * flag false +
      32 * flag false + 16 * flag policer.isSome + 8 * flag f.l1 + 4 * flag f.l0 := by
    simp only [dirFlags, flag_true, flag_false]
    omega
  rw [← hflags, ← hbyte] at hout hord hstrip hpol hm1 hm0 hlow
  obtain ⟨hprange, hpfill, hpolicer⟩ := encodeDir_shared ⟨key, .outbound f, policer, pool, cls⟩ hpol
  set e := encodeDir ⟨key, .outbound f, policer, pool, cls⟩
  refine ⟨?_, ?_, ?_⟩
  · simp only [decodeDir, dirOutbound, dirMask0, dirMask1, hout, hm0, hm1, hpolicer, hkey, hpool, hcls, fin_ofNat_val,
      classSelOf_classSelCode, BitVec.ofNat_toNat, BitVec.setWidth_eq]
    rfl
  · have hclass := classSelCode_range cls
    have hpool' := pool.isLt
    simp only [dirRangeOk, dirOutbound, hout, hprange, dirMask0, hm0, dirMask1, hm1, hpool, hcls, if_true,
      Bool.and_eq_true, Bool.or_eq_true, decide_eq_true_eq, beq_iff_eq, and_true]
    exact ⟨⟨hmask, by omega⟩, hclass⟩
  · have hzero : natAt e 4 2 = 0 ∧ natAt e 6 2 = 0 ∧ natAt e 8 2 = 0 := ⟨rfl, rfl, rfl⟩
    simp only [dirFillOk, dirOutbound, hout, hlow, hfill, hpfill, dirInOrder, hord, dirStrip, hstrip, hzero, if_true,
      Bool.not_false, beq_self_eq_true, Bool.and_self]

/-- A list of 16 bytes. -/
theorem exists_of_length_16 {α : Type} {e : List α} (h : e.length = 16) :
    ∃ b0 b1 b2 b3 b4 b5 b6 b7 b8 b9 b10 b11 b12 b13 b14 b15,
      e = [b0, b1, b2, b3, b4, b5, b6, b7, b8, b9, b10, b11, b12, b13, b14, b15] := by
  match e, h with
  | [b0, b1, b2, b3, b4, b5, b6, b7, b8, b9, b10, b11, b12, b13, b14, b15], _ =>
    exact ⟨b0, b1, b2, b3, b4, b5, b6, b7, b8, b9, b10, b11, b12, b13, b14, b15, rfl⟩

/-- The bytes of a record that one direction alone uses (R20). -/
def DirFields.bytes : DirFields → List Byte
  | .inbound f => toBE 1 f.window ++ toBE 1 f.rogue ++ toBE 2 f.mode.holdField ++ toBE 2 f.silence
  | .outbound _ => List.replicate 6 0

/-- The policer index of a record, 0 where it is absent (R20). -/
def policerField (p : Option (Fin 64)) : Nat :=
  match p with
  | some i => i.val
  | none => 0

theorem encodeDir_eq (r : DirRecord) :
    encodeDir r = toBE 3 r.key.toNat ++ [BitVec.ofNat 8 (dirFlags r)] ++ r.fields.bytes ++ toBE 1 (policerField r.policer) ++
      toBE 1 r.pool.val ++ toBE 1 (classSelCode r.cls) ++ [0, 0, 0] := by
  obtain ⟨key, fields | fields, policer, pool, cls⟩ := r <;> rfl

/-- Bytes whose number is zero are zero. -/
theorem eq_toBE_zero {bs : List Byte} (h : beNat bs = 0) : bs = toBE bs.length 0 := h ▸ (toBE_beNat bs).symm

/-- An entry whose fields lie in their ranges and whose fill is zero: what its flags say of the other fields (R20, R21). -/
theorem dirFlags_decodeDir {e : List Byte} (hfill : dirFillOk e = true) :
    BitVec.ofNat 8 (dirFlags (decodeDir e)) = byteAt e 3 := by
  simp only [dirFillOk, Bool.and_eq_true, beq_iff_eq] at hfill
  obtain ⟨⟨⟨hlow, -⟩, hfields⟩, -⟩ := hfill
  rw [← flagByte_eq (byteAt e 3) hlow]
  congr 1
  have hpol : (decodeDir e).policer.isSome = dirPoliced e := by
    cases hp : dirPoliced e <;> simp [decodeDir, hp]
  cases hout : dirOutbound e with
  | true =>
    simp only [hout, if_true, Bool.and_eq_true, Bool.not_eq_true'] at hfields
    obtain ⟨⟨⟨⟨hord, hstrip⟩, -⟩, -⟩, -⟩ := hfields
    have hf : (decodeDir e).fields = .outbound { l0 := dirMask0 e, l1 := dirMask1 e } := by simp [decodeDir, hout]
    simp only [dirOutbound, dirInOrder, dirStrip] at hout hord hstrip
    simp only [dirFlags, hf, hpol, dirPoliced, dirMask0, dirMask1, hout, hord, hstrip, flag_true, flag_false]
    omega
  | false =>
    simp only [hout, if_false, Bool.false_eq_true, Bool.and_eq_true, Bool.not_eq_true'] at hfields
    obtain ⟨⟨hm0, hm1⟩, -⟩ := hfields
    have hmode : (if dirInOrder e then Mode.inOrder (natAt e 6 2) else .passFirst).isInOrder = dirInOrder e := by
      cases dirInOrder e <;> rfl
    have hf : (decodeDir e).fields = .inbound
        { mode := if dirInOrder e then .inOrder (natAt e 6 2) else .passFirst, strip := dirStrip e,
          window := natAt e 4 1, rogue := natAt e 5 1, silence := natAt e 8 2 } := by
      simp only [decodeDir, hout, if_false, Bool.false_eq_true]
    simp only [dirOutbound, dirMask0, dirMask1] at hout hm0 hm1
    rw [dirFlags, hf, hpol]
    dsimp only
    rw [hmode]
    simp only [dirPoliced, dirInOrder, dirStrip, hout, hm0, hm1, flag_false]
    omega

/-- The bytes of one direction's fields, from an entry that passes R13. -/
theorem bytes_decodeDir {b0 b1 b2 b3 b4 b5 b6 b7 b8 b9 b10 b11 b12 b13 b14 b15 : Byte}
    (hfill : dirFillOk [b0, b1, b2, b3, b4, b5, b6, b7, b8, b9, b10, b11, b12, b13, b14, b15] = true) :
    (decodeDir [b0, b1, b2, b3, b4, b5, b6, b7, b8, b9, b10, b11, b12, b13, b14, b15]).fields.bytes =
      [b4, b5, b6, b7, b8, b9] := by
  set e := [b0, b1, b2, b3, b4, b5, b6, b7, b8, b9, b10, b11, b12, b13, b14, b15]
  simp only [dirFillOk, Bool.and_eq_true, beq_iff_eq] at hfill
  obtain ⟨⟨-, hfields⟩, -⟩ := hfill
  cases hout : dirOutbound e with
  | true =>
    simp only [hout, if_true, Bool.and_eq_true, beq_iff_eq] at hfields
    obtain ⟨⟨⟨-, h4⟩, h6⟩, h8⟩ := hfields
    have hf : (decodeDir e).fields = .outbound { l0 := dirMask0 e, l1 := dirMask1 e } := by simp [decodeDir, hout]
    rw [hf]
    show toBE 2 0 ++ toBE 2 0 ++ toBE 2 0 = [b4, b5] ++ [b6, b7] ++ [b8, b9]
    exact congrArg₂ (· ++ ·) (congrArg₂ (· ++ ·) (eq_toBE_zero (bs := [b4, b5]) h4).symm
      (eq_toBE_zero (bs := [b6, b7]) h6).symm) (eq_toBE_zero (bs := [b8, b9]) h8).symm
  | false =>
    simp only [hout, if_false, Bool.false_eq_true, Bool.and_eq_true, Bool.or_eq_true, beq_iff_eq] at hfields
    obtain ⟨-, h6⟩ := hfields
    have hhold : (if dirInOrder e then Mode.inOrder (natAt e 6 2) else .passFirst).holdField = natAt e 6 2 := by
      cases hord : dirInOrder e with
      | true => rfl
      | false => exact (h6.resolve_left (by simp [hord])).symm
    have hf : (decodeDir e).fields = .inbound
        { mode := if dirInOrder e then .inOrder (natAt e 6 2) else .passFirst, strip := dirStrip e,
          window := natAt e 4 1, rogue := natAt e 5 1, silence := natAt e 8 2 } := by
      simp only [decodeDir, hout, if_false, Bool.false_eq_true]
    rw [hf]
    show toBE 1 (natAt e 4 1) ++ toBE 1 (natAt e 5 1) ++ toBE 2 (Mode.holdField _) ++ toBE 2 (natAt e 8 2) = _
    rw [hhold]
    exact congrArg₂ (· ++ ·) (congrArg₂ (· ++ ·) (congrArg₂ (· ++ ·) (toBE_beNat [b4]) (toBE_beNat [b5]))
      (toBE_beNat [b6, b7])) (toBE_beNat [b8, b9])

theorem natAt_key_lt {e : List Byte} (hlen : e.length = 16) : natAt e 0 3 < 2 ^ 24 := by
  obtain ⟨b0, b1, b2, b3, b4, b5, b6, b7, b8, b9, b10, b11, b12, b13, b14, b15, rfl⟩ := exists_of_length_16 hlen
  have hlt : beNat [b0, b1, b2] < 256 ^ 3 := beNat_lt [b0, b1, b2]
  exact hlt.trans_eq (by norm_num)

/-- A well-formed encoding is that of the record it decodes to. -/
theorem encodeDir_decodeDir {e : List Byte} (hlen : e.length = 16) (hrange : dirRangeOk e = true)
    (hfill : dirFillOk e = true) :
    encodeDir (decodeDir e) = e := by
  have hflags := dirFlags_decodeDir hfill
  obtain ⟨b0, b1, b2, b3, b4, b5, b6, b7, b8, b9, b10, b11, b12, b13, b14, b15, rfl⟩ := exists_of_length_16 hlen
  have hfields := bytes_decodeDir hfill
  set e := [b0, b1, b2, b3, b4, b5, b6, b7, b8, b9, b10, b11, b12, b13, b14, b15]
  simp only [dirRangeOk, dirFillOk, Bool.and_eq_true, Bool.or_eq_true, Bool.not_eq_true', decide_eq_true_eq,
    beq_iff_eq] at hrange hfill
  obtain ⟨⟨⟨-, hpolicer⟩, hpool⟩, hcls⟩ := hrange
  obtain ⟨⟨⟨-, hzero⟩, -⟩, hnopolicer⟩ := hfill
  have hkey' : toBE 3 (decodeDir e).key.toNat = [b0, b1, b2] := by
    refine Eq.trans (congrArg (toBE 3) ?_) (toBE_beNat [b0, b1, b2])
    exact (BitVec.toNat_ofNat _ _).trans (Nat.mod_eq_of_lt (natAt_key_lt hlen))
  have hpolicer' : policerField (decodeDir e).policer = natAt e 10 1 := by
    cases hp : dirPoliced e with
    | true =>
      have hle := hpolicer.resolve_left (by simp [hp])
      have hsome : (decodeDir e).policer = some (Fin.ofNat 64 (natAt e 10 1)) := by simp [decodeDir, hp]
      rw [hsome]
      exact fin_val_ofNat (by omega)
    | false =>
      have hz := hnopolicer.resolve_left (by simp [hp])
      have hnone : (decodeDir e).policer = none := by simp [decodeDir, hp]
      rw [hnone, hz]
      rfl
  have hpool' : (decodeDir e).pool.val = natAt e 11 1 := fin_val_ofNat (by omega)
  have hcls' : classSelCode (decodeDir e).cls = natAt e 12 1 := classSelCode_classSelOf hcls
  have h10 : toBE 1 (natAt e 10 1) = [b10] := toBE_beNat [b10]
  have h11 : toBE 1 (natAt e 11 1) = [b11] := toBE_beNat [b11]
  have h12 : toBE 1 (natAt e 12 1) = [b12] := toBE_beNat [b12]
  have h13 : ([0, 0, 0] : List Byte) = [b13, b14, b15] := 
    (show [0, 0, 0] = toBE 3 0 from rfl).trans (eq_toBE_zero (bs := [b13, b14, b15]) hzero).symm
  rw [encodeDir_eq, hkey', hflags, hfields, hpolicer', hpool', hcls', h10, h11, h12, h13]
  rfl

/-- A well-formed encoding decodes to a record within its ranges. -/
theorem decodeDir_wf {e : List Byte} (hlen : e.length = 16) (hrange : dirRangeOk e = true) (hkey : natAt e 0 3 ≠ 0) :
    (decodeDir e).wf = true := by
  have hlt := natAt_key_lt hlen
  have hrogue : natAt e 5 1 ≤ 255 := by
    obtain ⟨b0, b1, b2, b3, b4, b5, b6, b7, b8, b9, b10, b11, b12, b13, b14, b15, rfl⟩ := exists_of_length_16 hlen
    exact Nat.le_of_lt_succ (beNat_lt [b5])
  have hkey' : ((decodeDir e).key != 0) = true := by
    rw [bne_iff_ne]
    intro h
    have := congrArg BitVec.toNat h
    exact hkey ((Nat.mod_eq_of_lt hlt).symm.trans ((BitVec.toNat_ofNat _ _).symm.trans this))
  simp only [dirRangeOk, Bool.and_eq_true] at hrange
  obtain ⟨⟨⟨hfields, -⟩, -⟩, -⟩ := hrange
  rw [DirRecord.wf, hkey', Bool.true_and]
  cases hout : dirOutbound e with
  | true =>
    simp only [hout, if_true] at hfields
    simpa [decodeDir, hout] using hfields
  | false =>
    simp only [hout, if_false, Bool.false_eq_true, Bool.and_eq_true, Bool.or_eq_true, Bool.not_eq_true'] at hfields
    obtain ⟨⟨hwindow, hsilence⟩, hhold⟩ := hfields
    simp only [decodeDir, hout, if_false, Bool.false_eq_true, hwindow, hsilence, hrogue, decide_true, Bool.true_and]
    cases hord : dirInOrder e with
    | true => exact hhold.resolve_left (by simp [hord])
    | false => rfl

/-! ## Policer, pool, queue and device entries (R21, R22) -/

theorem exists_of_length_4 {α : Type} {e : List α} (h : e.length = 4) : ∃ b0 b1 b2 b3, e = [b0, b1, b2, b3] := by
  match e, h with
  | [b0, b1, b2, b3], _ => exact ⟨b0, b1, b2, b3, rfl⟩

theorem exists_of_length_8 {α : Type} {e : List α} (h : e.length = 8) :
    ∃ b0 b1 b2 b3 b4 b5 b6 b7, e = [b0, b1, b2, b3, b4, b5, b6, b7] := by
  match e, h with
  | [b0, b1, b2, b3, b4, b5, b6, b7], _ => exact ⟨b0, b1, b2, b3, b4, b5, b6, b7, rfl⟩

theorem encodePolicer_decodePolicer {e : List Byte} (hlen : e.length = 8) (hrange : entryRangeOk 2 e = true)
    (hfill : entryFillOk 2 e = true) :
    (64 ≤ natAt e 2 3 ∧ natAt e 2 3 ≤ 262143 ∧ 1 ≤ natAt e 5 2 ∧ natAt e 5 2 ≤ 16383) ∧
      encodePolicer (decodePolicer e) = e := by
  obtain ⟨b0, b1, b2, b3, b4, b5, b6, b7, rfl⟩ := exists_of_length_8 hlen
  set e := [b0, b1, b2, b3, b4, b5, b6, b7]
  simp only [entryRangeOk, entryFillOk, within, Bool.and_eq_true, decide_eq_true_eq, beq_iff_eq] at hrange hfill
  obtain ⟨⟨⟨hindex, henabled⟩, hceiling, hceiling'⟩, hrefill, hrefill'⟩ := hrange
  refine ⟨⟨hceiling, hceiling', hrefill, hrefill'⟩, ?_⟩
  have h0 : toBE 1 (natAt e 0 1) = [b0] := toBE_beNat [b0]
  have h1 : toBE 1 (natAt e 1 1) = [b1] := toBE_beNat [b1]
  have h2 : toBE 3 (natAt e 2 3) = [b2, b3, b4] := toBE_beNat [b2, b3, b4]
  have h5 : toBE 2 (natAt e 5 2) = [b5, b6] := toBE_beNat [b5, b6]
  have h7 : ([0] : List Byte) = [b7] := (show [0] = toBE 1 0 from rfl).trans (eq_toBE_zero (bs := [b7]) hfill).symm
  rw [encodePolicer, decodePolicer, fin_val_ofNat (by omega), flag_eq henabled, h0, h1, h2, h5, h7]
  rfl

theorem encodePool_decodePool {e : List Byte} (hlen : e.length = 4) (hrange : entryRangeOk 3 e = true)
    (hfill : entryFillOk 3 e = true) : (decodePool e).quota ≤ 2032 ∧ encodePool (decodePool e) = e := by
  obtain ⟨b0, b1, b2, b3, rfl⟩ := exists_of_length_4 hlen
  set e := [b0, b1, b2, b3]
  simp only [entryRangeOk, entryFillOk, Bool.and_eq_true, decide_eq_true_eq, beq_iff_eq] at hrange hfill
  obtain ⟨hindex, hquota⟩ := hrange
  refine ⟨hquota, ?_⟩
  have h0 : toBE 1 (natAt e 0 1) = [b0] := toBE_beNat [b0]
  have h1 : ([0] : List Byte) = [b1] := (show [0] = toBE 1 0 from rfl).trans (eq_toBE_zero (bs := [b1]) hfill).symm
  have h2 : toBE 2 (natAt e 2 2) = [b2, b3] := toBE_beNat [b2, b3]
  rw [encodePool, decodePool, fin_val_ofNat (by omega), h0, h1, h2]
  rfl

theorem encodeQueue_decodeQueue {e : List Byte} (hlen : e.length = 4) (hrange : entryRangeOk 4 e = true) :
    (decodeQueue e).limit ≤ 160 ∧ encodeQueue (decodeQueue e) = e := by
  obtain ⟨b0, b1, b2, b3, rfl⟩ := exists_of_length_4 hlen
  set e := [b0, b1, b2, b3]
  simp only [entryRangeOk, Bool.and_eq_true, decide_eq_true_eq] at hrange
  obtain ⟨⟨hport, hcls⟩, hlimit⟩ := hrange
  refine ⟨hlimit, ?_⟩
  have h0 : toBE 1 (natAt e 0 1) = [b0] := toBE_beNat [b0]
  have h1 : toBE 1 (natAt e 1 1) = [b1] := toBE_beNat [b1]
  have h2 : toBE 2 (natAt e 2 2) = [b2, b3] := toBE_beNat [b2, b3]
  rw [encodeQueue, decodeQueue, portCode_portOf hport, classCode_classOf hcls, h0, h1, h2]
  rfl

/-- A device parameter whose value lies in its range decodes to that index and value. -/
theorem decodeDevice_range {e : List Byte} (hrange : deviceRangeOk (natAt e 0 1) (natAt e 2 2) = true) :
    (deviceIndex (decodeDevice e) = natAt e 0 1 ∧ deviceValue (decodeDevice e) = natAt e 2 2) ∧
      (∀ n, decodeDevice e = .noticeInterval n → 10 ≤ n ∧ n ≤ 10000) ∧
        ∀ n, decodeDevice e = .sessionTimeout n → 1 ≤ n ∧ n ≤ 600 := by
  unfold decodeDevice
  generalize natAt e 0 1 = i at *
  generalize natAt e 2 2 = v at *
  unfold deviceRangeOk at hrange
  split at hrange
  case h_9 => cases hrange
  case h_6 =>
    simp only [within, Bool.and_eq_true, decide_eq_true_eq] at hrange
    exact ⟨⟨rfl, rfl⟩, fun n hn => (DeviceEntry.noticeInterval.inj hn) ▸ hrange, nofun⟩
  case h_7 =>
    simp only [within, Bool.and_eq_true, decide_eq_true_eq] at hrange
    exact ⟨⟨rfl, rfl⟩, nofun, fun n hn => (DeviceEntry.sessionTimeout.inj hn) ▸ hrange⟩
  all_goals
    refine ⟨?_, nofun, nofun⟩
    rw [decide_eq_true_eq] at hrange
    interval_cases v <;> exact ⟨rfl, rfl⟩

theorem encodeDevice_decodeDevice {e : List Byte} (hlen : e.length = 4) (hrange : entryRangeOk 5 e = true)
    (hfill : entryFillOk 5 e = true) : encodeDevice (decodeDevice e) = e := by
  obtain ⟨⟨hindex, hvalue⟩, -⟩ := decodeDevice_range hrange
  obtain ⟨b0, b1, b2, b3, rfl⟩ := exists_of_length_4 hlen
  set e := [b0, b1, b2, b3]
  simp only [entryFillOk, beq_iff_eq] at hfill
  have h0 : toBE 1 (natAt e 0 1) = [b0] := toBE_beNat [b0]
  have h1 : ([0] : List Byte) = [b1] := (show [0] = toBE 1 0 from rfl).trans (eq_toBE_zero (bs := [b1]) hfill).symm
  have h2 : toBE 2 (natAt e 2 2) = [b2, b3] := toBE_beNat [b2, b3]
  rw [encodeDevice, hindex, hvalue, h0, h1, h2]
  rfl

theorem decodePolicer_encodePolicer {e : PolicerEntry} (hceiling : 64 ≤ e.ceiling) (hceiling' : e.ceiling ≤ 262143)
    (hrefill : 1 ≤ e.refill) (hrefill' : e.refill ≤ 16383) :
    decodePolicer (encodePolicer e) = e ∧ entryRangeOk 2 (encodePolicer e) = true ∧
      entryFillOk 2 (encodePolicer e) = true := by
  have hindex := e.index.isLt
  have hflag : flag e.enabled ≤ 1 := by cases e.enabled <;> decide
  have h0 : natAt (encodePolicer e) 0 1 = e.index.val := beNat_toBE (w := 1) (by omega)
  have h1 : natAt (encodePolicer e) 1 1 = flag e.enabled := beNat_toBE (w := 1) (by omega)
  have h2 : natAt (encodePolicer e) 2 3 = e.ceiling := beNat_toBE (w := 3) (by omega)
  have h5 : natAt (encodePolicer e) 5 2 = e.refill := beNat_toBE (w := 2) (by omega)
  refine ⟨?_, ?_, rfl⟩
  · have henabled : (flag e.enabled == 1) = e.enabled := by cases e.enabled <;> rfl
    rw [decodePolicer, h0, h1, h2, h5, fin_ofNat_val, henabled]
  · simp only [entryRangeOk, h0, h1, h2, h5, within, Bool.and_eq_true, decide_eq_true_eq]
    omega

theorem decodePool_encodePool {e : PoolEntry} (hquota : e.quota ≤ 2032) :
    decodePool (encodePool e) = e ∧ entryRangeOk 3 (encodePool e) = true ∧ entryFillOk 3 (encodePool e) = true := by
  have hindex := e.index.isLt
  have h0 : natAt (encodePool e) 0 1 = e.index.val := beNat_toBE (w := 1) (by omega)
  have h2 : natAt (encodePool e) 2 2 = e.quota := beNat_toBE (w := 2) (by omega)
  refine ⟨by rw [decodePool, h0, h2, fin_ofNat_val], ?_, rfl⟩
  simp only [entryRangeOk, h0, h2, Config.quotaSum, Bool.and_eq_true, decide_eq_true_eq]
  omega

theorem decodeQueue_encodeQueue {e : QueueEntry} (hlimit : e.limit ≤ 160) :
    decodeQueue (encodeQueue e) = e ∧ entryRangeOk 4 (encodeQueue e) = true ∧ entryFillOk 4 (encodeQueue e) = true := by
  have hport := portCode_le e.port
  have hcls := classCode_le e.cls
  have h0 : natAt (encodeQueue e) 0 1 = portCode e.port := beNat_toBE (w := 1) (by omega)
  have h1 : natAt (encodeQueue e) 1 1 = classCode e.cls := beNat_toBE (w := 1) (by omega)
  have h2 : natAt (encodeQueue e) 2 2 = e.limit := beNat_toBE (w := 2) (by omega)
  refine ⟨by rw [decodeQueue, h0, h1, h2, portOf_portCode, classOf_classCode], ?_, rfl⟩
  simp only [entryRangeOk, h0, h1, h2, Config.slots, Bool.and_eq_true, decide_eq_true_eq]
  omega

theorem decodeDevice_encodeDevice {e : DeviceEntry} (hinterval : ∀ n, e = .noticeInterval n → 10 ≤ n ∧ n ≤ 10000)
    (htimeout : ∀ n, e = .sessionTimeout n → 1 ≤ n ∧ n ≤ 600) :
    decodeDevice (encodeDevice e) = e ∧ entryRangeOk 5 (encodeDevice e) = true ∧ entryFillOk 5 (encodeDevice e) = true := by
  have hindex : deviceIndex e ≤ 7 := by cases e <;> simp [deviceIndex]
  have hvalue : deviceValue e ≤ 10000 := by
    cases e with
    | unknownInbound v => cases v <;> decide
    | preferredLane v => cases v <;> decide
    | unknownOutbound v => cases v <;> decide
    | unknownPool i => exact i.isLt.le.trans (by decide)
    | noticeDestination v => cases v <;> decide
    | noticeInterval n => exact (hinterval n rfl).2
    | sessionTimeout n => exact (htimeout n rfl).2.trans (by decide)
    | managementClass c => cases c <;> decide
  have h0 : natAt (encodeDevice e) 0 1 = deviceIndex e := beNat_toBE (w := 1) (by omega)
  have h2 : natAt (encodeDevice e) 2 2 = deviceValue e := beNat_toBE (w := 2) (by omega)
  refine ⟨?_, ?_, rfl⟩
  · rw [decodeDevice, h0, h2]
    cases e with
    | unknownInbound v => cases v <;> rfl
    | preferredLane v => cases v <;> rfl
    | unknownOutbound v => cases v <;> rfl
    | unknownPool i => exact congrArg DeviceEntry.unknownPool (fin_ofNat_val i)
    | noticeDestination v => cases v <;> rfl
    | managementClass c => cases c <;> rfl
    | _ => rfl
  · show deviceRangeOk (natAt (encodeDevice e) 0 1) (natAt (encodeDevice e) 2 2) = true
    rw [h0, h2]
    cases e with
    | unknownInbound v => cases v <;> rfl
    | preferredLane v => cases v <;> rfl
    | unknownOutbound v => cases v <;> rfl
    | unknownPool i => exact decide_eq_true (Nat.le_of_lt_succ i.isLt)
    | noticeDestination v => cases v <;> rfl
    | noticeInterval n =>
      show within 10 n 10000 = true
      simpa [within] using hinterval n rfl
    | sessionTimeout n =>
      show within 1 n 600 = true
      simpa [within] using htimeout n rfl
    | managementClass c => cases c <;> rfl

/-- Settles O60. -/
theorem tableEntriesRoundTrip : Obligations.TableEntriesRoundTrip := by
  refine ⟨fun r hr => ?_, fun e hlen hrange hfill hkey => ⟨decodeDir_wf hlen hrange hkey,
    encodeDir_decodeDir hlen hrange hfill⟩,
    fun e => ⟨fun hlen hrange hfill => ?_, fun hlen => ⟨encodePool_decodePool hlen,
      fun hrange _ => encodeQueue_decodeQueue hlen hrange, fun hrange hfill => ?_⟩⟩,
    fun e => decodePolicer_encodePolicer, fun e => decodePool_encodePool, fun e => decodeQueue_encodeQueue,
    fun e => decodeDevice_encodeDevice⟩
  · obtain ⟨-, -, -, -, -, -, -, hlen⟩ := encodeDir_tail r
    obtain ⟨hround, hrange, hfill⟩ : decodeDir (encodeDir r) = r ∧ dirRangeOk (encodeDir r) = true ∧
        dirFillOk (encodeDir r) = true := by
      cases hf : r.fields with
      | inbound f => exact decodeDir_encodeDir_inbound hf hr
      | outbound f => exact decodeDir_encodeDir_outbound hf hr
    exact ⟨hround, hlen, hrange, hfill⟩
  · obtain ⟨⟨h1, h2, h3, h4⟩, hround⟩ := encodePolicer_decodePolicer hlen hrange hfill
    exact ⟨h1, h2, h3, h4, hround⟩
  · obtain ⟨-, hinterval, htimeout⟩ := decodeDevice_range hrange
    exact ⟨encodeDevice_decodeDevice hlen hrange hfill, hinterval, htimeout⟩

end Sys2Proof.Machine
end

section
set_option Elab.async false
/-! The merge engine's streams: one for each key, the hold table within its entries, and each record within the laws of R46, R76
and R77 (R46, R78, R201). -/

namespace Sys2Proof.Machine

/-! ## Streams by key -/

section
variable {m : Merge} {k : Key} {st : Stream} {f : Stream → Stream}

/-- With one stream for each key, the stream found is the only one of its key. -/
theorem Merge.find_of_mem (hkeys : (m.streams.map (·.key)).Nodup) (hst : st ∈ m.streams) : m.find st.key = some st := by
  unfold Merge.find
  generalize m.streams = sts at hkeys hst ⊢
  induction sts with
  | nil => cases hst
  | cons x xs ih =>
    rw [List.map_cons, List.nodup_cons] at hkeys
    obtain ⟨hx, hxs⟩ := hkeys
    obtain rfl | hst := List.mem_cons.mp hst
    · simp
    · have hne : x.key ≠ st.key := fun h => hx (h ▸ List.mem_map_of_mem hst)
      rw [List.find?_cons_of_neg (by simpa using hne)]
      exact ih hxs hst

theorem Merge.eq_of_find (hkeys : (m.streams.map (·.key)).Nodup) (hfind : m.find k = some st) {x : Stream}
    (hx : x ∈ m.streams) (hk : x.key = k) : x = st :=
  Option.some.inj ((hk ▸ (Merge.find_of_mem hkeys hx)).symm.trans hfind)

theorem Merge.mem_upd {y : Stream} :
    y ∈ (m.upd k f).streams ↔ (∃ x ∈ m.streams, x.key = k ∧ y = f x) ∨ (y ∈ m.streams ∧ y.key ≠ k) := by
  simp only [Merge.upd, List.mem_map]
  constructor
  · rintro ⟨x, hx, rfl⟩
    by_cases hk : x.key = k
    · exact .inl ⟨x, hx, hk, by simp [hk]⟩
    · exact .inr (by simp [hk, hx])
  · rintro (⟨x, hx, hk, rfl⟩ | ⟨hy, hk⟩)
    · exact ⟨x, hx, by simp [hk]⟩
    · exact ⟨y, hy, by simp [hk]⟩

/-- The frames held after a change of the stream found, which then holds at most `n` more. -/
theorem Merge.holdInUse_upd_find (hkeys : (m.streams.map (·.key)).Nodup) (hfind : m.find k = some st) {n : Nat}
    (hheld : (f st).recov.held.length ≤ st.recov.held.length + n) : (m.upd k f).holdInUse ≤ m.holdInUse + n := by
  have hother (xs : List Stream) (hxs : ∀ x ∈ xs, x.key ≠ k) :
      (xs.map fun x => if x.key = k then f x else x) = xs :=
    (List.map_congr_left fun x hx => if_neg (hxs x hx)).trans (List.map_id' xs)
  simp only [Merge.holdInUse, Merge.upd, Merge.find] at hfind ⊢
  generalize m.streams = sts at hkeys hfind ⊢
  induction sts with
  | nil => cases hfind
  | cons x xs ih =>
    rw [List.map_cons, List.nodup_cons] at hkeys
    obtain ⟨hx, hxs⟩ := hkeys
    by_cases hk : x.key = k
    · rw [List.find?_cons_of_pos (by simpa using hk)] at hfind
      obtain rfl := Option.some.inj hfind
      have htail : ∀ y ∈ xs, y.key ≠ k := fun y hy heq => hx (hk ▸ heq ▸ List.mem_map_of_mem hy)
      simp only [List.map_cons, if_pos hk, hother xs htail, List.sum_cons]
      omega
    · rw [List.find?_cons_of_neg (by simpa using hk)] at hfind
      have := ih hxs hfind
      simp only [List.map_cons, if_neg hk, List.sum_cons]
      omega

/-- A list of streams without some of them holds no more. -/
theorem sum_held_sublist {xs ys : List Stream} (h : xs.Sublist ys) :
    (xs.map fun x => x.recov.held.length).sum ≤ (ys.map fun x => x.recov.held.length).sum := by
  induction h with
  | slnil => exact Nat.le_refl _
  | cons y _ ih => simp only [List.map_cons, List.sum_cons]; omega
  | cons_cons y _ ih => simp only [List.map_cons, List.sum_cons]; omega

end

/-! ## What the operations on one record make of its hold list -/

theorem judge_held_le (w rogue : Nat) (r : Recovery) (c : InCounts) (q : Seq) (f : Bool) :
    (judge w rogue r c q f).recov.held.length ≤ r.held.length := by
  obtain ⟨h, -⟩ | ⟨h, -⟩ | ⟨n, h, -⟩ := judge_cases w rogue r c q f
  · rw [h]
  · rw [h]
    exact Nat.zero_le _
  · rw [h]
    exact Nat.le_refl _

theorem releaseRun_held_le (n : Seq) (hs : List Held) : (releaseRun n hs).2.1.length ≤ hs.length := by
  have := congrArg List.length (releaseRun_append n hs)
  rw [List.length_append] at this
  omega

theorem Ordered.accepted_held_le (o : Ordered) (lead : Seq) (w : Nat) (q : Seq) (e : Option Held) :
    (o.accepted lead w q e).1.held.length ≤ o.held.length + e.toList.length := by
  have hjoined : (o.joined e).length = o.held.length + e.toList.length := by
    cases e with
    | none => rfl
    | some h => exact joinHold_length o.nxt h o.held
  rw [Ordered.accepted_eq_joined, ← hjoined]
  refine (releaseRun_held_le _ _).trans ?_
  rw [List.length_drop]
  omega

theorem Recovery.held_of_tracking {r : Recovery} {t : Tracking} (ht : r.tracking = some t) :
    r.held = (t.ordered.map (·.held)).getD [] := by
  simp only [Recovery.held, ht]
  cases t.ordered <;> rfl

/-- A recorded acceptance holds one frame more at most, and none but the entry it brings. -/
theorem accept_held_le (w silence : Nat) (inOrder : Bool) (now : Nat) (r : Recovery) (q : Seq) (e : Option Held) :
    (accept w silence inOrder now r q e).recov.held.length ≤ r.held.length + e.toList.length := by
  cases ht : r.tracking with
  | none =>
    have : (accept w silence inOrder now r q e).recov.held = [] := by
      simp only [accept, ht]
      cases inOrder <;> rfl
    rw [this]
    exact Nat.zero_le _
  | some t =>
    have hlead : ∃ t' : Tracking, ∃ lead, (accept w silence inOrder now r q e).recov.tracking = some t' ∧
        t'.ordered = t.ordered.map fun o => (o.accepted lead w q e).1 := by
      by_cases ha : 1 ≤ seqAhead q t.lead ∧ seqAhead q t.lead < w
      · rw [accept_of_ahead ht ha.1 ha.2]
        exact ⟨_, q, rfl, rfl⟩
      · rw [accept_of_not_ahead ht ha]
        exact ⟨_, t.lead, rfl, rfl⟩
    obtain ⟨t', lead, ht', hord⟩ := hlead
    rw [Recovery.held_of_tracking ht', Recovery.held_of_tracking ht, hord]
    cases t.ordered with
    | none => exact Nat.zero_le _
    | some o => exact o.accepted_held_le lead w q e

theorem expireHold_held_le {now : Nat} {t : Tracking} {o : Ordered} (ho : t.ordered = some o) :
    (((expireHold now t o).1.ordered.map (·.held)).getD []).length ≤ o.held.length := by
  obtain hall | ⟨pre, f, post, hheld, hf, hpost⟩ := exists_highest_expired now o.held
  · rw [expireHold_of_forall hall]
    simp [ho]
  · rw [expireHold_of_append hheld hf hpost, hheld]
    have := releaseRun_held_le (f.seq + 1) post
    simp only [Option.map_some, Option.getD_some, List.length_append, List.length_cons]
    omega

/-! ## One stream for each key, 1024 held frames -/

/-- The law of the merge engine's streams: one for each key, and the hold table not overdrawn. -/
def Merge.TablesOk (m : Merge) : Prop := (m.streams.map (·.key)).Nodup ∧ m.holdInUse ≤ 1024

theorem nodup_keys_sublist {xs ys : List Stream} (hsub : xs.Sublist ys) (h : (ys.map (·.key)).Nodup) :
    (xs.map (·.key)).Nodup := h.sublist (hsub.map _)

theorem nodup_keys_added_stream {m : Merge} {k : Key} (h : (m.streams.map (·.key)).Nodup) (x : Stream) (hx : x.key = k) :
    (((m.streams.filter fun y => !(y.key == k)) ++ [x]).map (·.key)).Nodup := by
  rw [List.map_append, List.nodup_append]
  refine ⟨nodup_keys_sublist List.filter_sublist h, by simp, ?_⟩
  intro a ha b hb
  obtain ⟨y, hy, rfl⟩ := List.mem_map.mp ha
  obtain rfl : b = k := by simpa [hx] using hb
  simpa using (List.mem_filter.mp hy).2

theorem Merge.Change.tablesOk {R : DirRecord → Prop} {m0 m m' : Merge} (h : Merge.Change R m0 m m') (hm : m.TablesOk) :
    m'.TablesOk := by
  obtain ⟨hkeys, hholds⟩ := hm
  have hupd {k : Key} {f : Stream → Stream} (hf : ∀ st, (f st).key = st.key) : ((m.upd k f).streams.map (·.key)).Nodup :=
    (Merge.upd_keys m k f hf).symm ▸ hkeys
  cases h with
  | counted k f =>
    have hle := m.holdInUse_upd_le k (fun st => { st with counts := f st }) fun st => Nat.le_refl st.recov.held.length
    exact ⟨hupd fun _ => rfl, hle.trans hholds⟩
  | judged a st hfind =>
    exact ⟨hupd fun _ => rfl,
      (Merge.holdInUse_upd_find (n := 0) hkeys hfind (judge_held_le _ _ _ _ _ _)).trans hholds⟩
  | accepted a v ref st entry now f d hhand hfind hentry =>
    refine ⟨hupd fun _ => rfl, ?_⟩
    have hle := Merge.holdInUse_upd_find
      (f := fun x => { x with
        recov := (accept st.params.window st.params.silence st.params.mode.isInOrder now st.recov a.seq entry).recov,
        counts := f x }) hkeys hfind (accept_held_le _ _ _ _ _ _ entry)
    obtain ⟨-, rfl⟩ | ⟨-, hroom, h, rfl, -⟩ := hentry
    · exact hle.trans hholds
    · exact hle.trans hroom
  | removed k n =>
    exact ⟨nodup_keys_sublist List.filter_sublist hkeys, (sum_held_sublist List.filter_sublist).trans hholds⟩
  | added e r p =>
    refine ⟨nodup_keys_added_stream hkeys _ rfl, ?_⟩
    have := sum_held_sublist (List.filter_sublist (p := fun x => !(x.key == e.key)) (l := m.streams))
    simp only [Merge.holdInUse, List.map_append, List.sum_append, List.map_cons, List.map_nil, List.sum_cons, List.sum_nil]
    exact (Nat.add_le_add this (Nat.le_refl 0)).trans hholds
  | recoveryChanged e r p =>
    exact ⟨hupd fun _ => rfl, (m.holdInUse_upd_le _ _ fun _ => Nat.zero_le _).trans hholds⟩
  | otherChanged e r p now =>
    refine ⟨hupd fun _ => rfl, (m.holdInUse_upd_le _ _ fun st => ?_).trans hholds⟩
    cases ht : st.recov.tracking with
    | none => simp [Recovery.held, Recovery.otherChanged, ht]
    | some t => simp only [Recovery.held, Recovery.otherChanged, ht, Option.map_some, Nat.le_refl]
  | silenced k f => exact ⟨hupd fun _ => rfl, (m.holdInUse_upd_le _ _ fun _ => Nat.zero_le _).trans hholds⟩
  | expired k st t o now f hhand hfind ht ho =>
    refine ⟨hupd fun _ => rfl, (Merge.holdInUse_upd_find (n := 0) hkeys hfind ?_).trans hholds⟩
    rw [Recovery.held_of_tracking ht, Recovery.held_of_tracking rfl, ho]
    exact expireHold_held_le ho
  | trafficRestart =>
    have hzero (xs : List Stream) : ((xs.map Stream.trafficReset).map fun x => x.recov.held.length).sum = 0 := by
      induction xs with
      | nil => rfl
      | cons x xs ih => simpa [Stream.trafficReset] using ih
    have hsame : (m.streams.map Stream.trafficReset).map (·.key) = m.streams.map (·.key) := by
      rw [List.map_map]
      rfl
    exact ⟨hsame.symm ▸ hkeys, (hzero m.streams).le.trans (Nat.zero_le _)⟩
  | poweredOn hand born => exact ⟨List.nodup_nil, Nat.zero_le _⟩
  | _ => exact ⟨hkeys, hholds⟩

theorem Merge.Changes.tablesOk {R : DirRecord → Prop} {m0 m m' : Merge} (h : Merge.Changes R m0 m m') (hm : m.TablesOk) :
    m'.TablesOk := by
  induction h with
  | refl => exact hm
  | tail _ hstep ih => exact hstep.tablesOk ih

theorem exec_streamsOk {c : Instr} {s t : State} (hs : s.StreamsOk) (h : exec c s = .next t) : t.StreamsOk := by
  refine exec_keeps h (fun _ _ _ _ => ⟨List.nodup_nil, List.nodup_nil, Nat.zero_le _⟩) fun b hc => ?_
  have hmerge : t.mrg.TablesOk := by
    obtain hm | ⟨q, -, hm⟩ := exec_mrg_cases hc h
    · exact hm.tablesOk ⟨hs.inbound, hs.holds⟩
    · rw [hm]
      exact ⟨hs.inbound, hs.holds⟩
  refine ⟨hmerge.1, ?_, hmerge.2⟩
  obtain hr | ⟨q, x, -, hr⟩ := exec_rep_cases hc h
  · exact hr.streams hs.outbound
  · rw [hr]
    exact hs.outbound

/-- Settles O13. -/
theorem stepKeepsStreamsAndHoldTable : Obligations.StepKeepsStreamsAndHoldTable := fun _ _ =>
  step_keeps (I := State.StreamsOk) (fun _ _ h => ⟨h.inbound, h.outbound, h.holds⟩) fun _ _ _ => exec_streamsOk

end Sys2Proof.Machine
end

section
set_option Elab.async false
/-! The laws of the recovery records at every step, and the values of the directory records from the request that stages them to
the parameter copies (R13, R21, R46, R76, R77, R182). -/

namespace Sys2Proof.Machine

/-! ## The shape of one record (R46) -/

theorem Recovery.shapeOk_iff {r : Recovery} {w : Nat} {b : Bool} :
    r.shapeOk w b = true ↔
      ∀ t, r.tracking = some t → t.window.length = w ∧ t.window[0]? = some .accepted ∧ t.ordered.isSome = b := by
  unfold Recovery.shapeOk
  cases ht : r.tracking with
  | none => simp
  | some t =>
    have hget : t.window.getD 0 .vacant = .accepted ↔ t.window[0]? = some .accepted := by
      rw [List.getD_eq_getElem?_getD]
      cases t.window[0]? <;> simp
    simp only [Bool.and_eq_true, beq_iff_eq, hget, and_assoc, Option.some.injEq, forall_eq']

theorem Recovery.shapeOk_of_fresh {r : Recovery} (h : r.tracking = none) (w : Nat) (b : Bool) : r.shapeOk w b = true :=
  Recovery.shapeOk_iff.mpr fun _ ht => nomatch h.symm.trans ht

/-- The shape depends on what is tracked alone. -/
theorem Recovery.shapeOk_congr {r r' : Recovery} (h : r'.tracking = r.tracking) {w : Nat} {b : Bool}
    (hr : r.shapeOk w b = true) : r'.shapeOk w b = true :=
  Recovery.shapeOk_iff.mpr fun t ht => Recovery.shapeOk_iff.mp hr t (h ▸ ht)

/-- A judgement leaves what is tracked, or resets it; its rogue count stays in its range. -/
theorem judge_tracking (w rogue : Nat) (r : Recovery) (c : InCounts) (q : Seq) (f : Bool) :
    (judge w rogue r c q f).recov.tracking = none ∨ (judge w rogue r c q f).recov.tracking = r.tracking := by
  obtain ⟨h, -⟩ | ⟨h, -⟩ | ⟨n, h, -⟩ := judge_cases w rogue r c q f
  · exact .inr (by rw [h])
  · exact .inl (by rw [h]; rfl)
  · exact .inr (by rw [h])

theorem judge_shapeOk {w : Nat} {b : Bool} {r : Recovery} (h : r.shapeOk w b = true) (rogue : Nat) (c : InCounts) (q : Seq)
    (f : Bool) : (judge w rogue r c q f).recov.shapeOk w b = true := by
  obtain hj | hj := judge_tracking w rogue r c q f
  · exact Recovery.shapeOk_of_fresh hj w b
  · exact Recovery.shapeOk_congr hj h

theorem judge_rogue_le {r : Recovery} (h : r.rogue ≤ 255) (w rogue : Nat) (c : InCounts) (q : Seq) (f : Bool) :
    (judge w rogue r c q f).recov.rogue ≤ 255 := by
  unfold judge
  split
  · exact Nat.zero_le _
  · split
    · exact h
    · exact h
    · exact Nat.zero_le _
    · exact h
    · dsimp only
      split
      · exact Nat.zero_le _
      · exact Nat.min_le_right _ _

theorem accept_shapeOk {w : Nat} {b : Bool} {r : Recovery} (hw : 1 ≤ w) (h : r.shapeOk w b = true)
    (silence now : Nat) (q : Seq)
    (e : Option Held) : (accept w silence b now r q e).recov.shapeOk w b = true := by
  rw [Recovery.shapeOk_iff] at h ⊢
  intro t' ht'
  cases ht : r.tracking with
  | none =>
    simp only [accept, ht] at ht'
    obtain rfl := Option.some.inj ht'
    refine ⟨?_, rfl, by cases b <;> rfl⟩
    simp only [takeAnyWindow, List.length_cons, List.length_replicate]
    omega
  | some t =>
    obtain ⟨hlen, hlead, hord⟩ := h t ht
    by_cases ha : 1 ≤ seqAhead q t.lead ∧ seqAhead q t.lead < w
    · rw [accept_of_ahead ht ha.1 ha.2] at ht'
      obtain rfl := Option.some.inj ht'
      refine ⟨advanceWindow_length hlen, ?_, by simpa using hord⟩
      rw [advanceWindow_getElem? t.window ha.1 (by omega)]
      rfl
    · rw [accept_of_not_ahead ht ha] at ht'
      obtain rfl := Option.some.inj ht'
      refine ⟨by simpa using hlen, ?_, by simpa using hord⟩
      rw [List.getElem?_set, hlead, hlen]
      split_ifs with h0 hlt
      · rfl
      · omega
      · rfl

theorem expireHold_shapeOk {w : Nat} {b : Bool} {r : Recovery} {t : Tracking} {o : Ordered} (h : r.shapeOk w b = true)
    (ht : r.tracking = some t) (ho : t.ordered = some o) (now : Nat) :
    ({ r with tracking := some (expireHold now t o).1 } : Recovery).shapeOk w b = true := by
  rw [Recovery.shapeOk_iff] at h ⊢
  intro t' ht'
  obtain rfl := Option.some.inj ht'
  obtain ⟨hlen, hlead, hord⟩ := h t ht
  obtain hall | ⟨pre, f, post, hheld, hf, hpost⟩ := exists_highest_expired now o.held
  · rw [expireHold_of_forall hall]
    exact ⟨hlen, hlead, hord⟩
  · rw [expireHold_of_append hheld hf hpost]
    refine ⟨(waiveBelow_length _ _ _ _).trans hlen, ?_, ?_⟩
    · rw [waiveBelow_getElem?, hlead]
      rfl
    · rw [ho] at hord
      exact hord

theorem otherChanged_shapeOk {w : Nat} {b : Bool} {r : Recovery} (h : r.shapeOk w b = true) (rogue silence now : Nat) :
    (r.otherChanged rogue silence now).shapeOk w b = true := by
  rw [Recovery.shapeOk_iff] at h ⊢
  intro t' ht'
  obtain ⟨t, ht, rfl⟩ := Option.map_eq_some_iff.mp ht'
  exact h t ht

/-! ## One stream (R46, R76, R77) -/

/-- The order law does not depend on the silence timer. -/
theorem Tracking.OrderOk.congr {t t' : Tracking} {o : Ordered} {w : Nat} (h : t.OrderOk o w) (hlead : t'.lead = t.lead)
    (hwindow : t'.window = t.window) : t'.OrderOk o w := by
  have hplace (q : Seq) : t'.place w q = t.place w q := by simp only [Tracking.place, hlead]
  constructor
  · rw [hplace]
    exact h.next
  · simpa only [hplace, hwindow] using h.below
  · simpa only [hplace, hwindow, hlead] using h.above
  · simpa only [hplace, hwindow] using h.held
  · exact h.ascends
  · exact h.most
  · exact h.timer

/-- A stream whose record is FRESH. -/
theorem Stream.Lawful.of_fresh {st : Stream} (hwidth : 2 ≤ st.params.window ∧ st.params.window ≤ 128)
    (hrogue : st.recov.rogue ≤ 255) (hfresh : st.recov.tracking = none) : st.Lawful :=
  ⟨hwidth, hrogue, Recovery.shapeOk_of_fresh hfresh _ _, fun _ _ ht => nomatch hfresh.symm.trans ht⟩

/-- A stream whose record tracks what it tracked before. -/
theorem Stream.Lawful.congr {st st' : Stream} (h : st.Lawful) (hparams : st'.params = st.params)
    (htracking : st'.recov.tracking = st.recov.tracking) (hrogue : st'.recov.rogue ≤ 255) : st'.Lawful where
  width := hparams ▸ h.width
  rogue := hrogue
  shape := hparams ▸ Recovery.shapeOk_congr htracking h.shape
  order t o ht ho := hparams ▸ h.order t o (htracking ▸ ht) ho

theorem Stream.Lawful.judged {st st' : Stream} (h : st.Lawful) {c : InCounts} {q : Seq} {f : Bool}
    (hparams : st'.params = st.params)
    (hrecov : st'.recov = (judge st.params.window st.params.rogue st.recov c q f).recov) : st'.Lawful := by
  have hrogue : st'.recov.rogue ≤ 255 := hrecov ▸ judge_rogue_le h.rogue _ _ _ _ _
  obtain hj | hj := judge_tracking st.params.window st.params.rogue st.recov c q f
  · exact .of_fresh (hparams ▸ h.width) hrogue (hrecov ▸ hj)
  · exact h.congr hparams (hrecov ▸ hj) hrogue

/-- The recording of an acceptance, whose candidate the record makes as it stands (R61, R80). -/
theorem Stream.Lawful.accepted {st st' : Stream} (h : st.Lawful) {now : Nat} {q : Seq} {e : Option Held} {v : Verdict}
    (hparams : st'.params = st.params)
    (hrecov : st'.recov = (accept st.params.window st.params.silence st.params.mode.isInOrder now st.recov q e).recov)
    (hjudge : ∀ t, st.recov.tracking = some t → t.judge st.params.window q = .candidate v)
    (hentry : e = none ∧ v ≠ .hold ∨ v = .hold ∧ ∃ x, e = some x ∧ x.seq = q) : st'.Lawful := by
  obtain ⟨hw2, hw⟩ := h.width
  refine ⟨hparams ▸ h.width, ?_, ?_, fun t' o' ht' ho' => ?_⟩
  · have := (accept_tracks st.params.window st.params.silence st.params.mode.isInOrder now st.recov q e).2.1
    rw [hrecov, this]
    exact Nat.zero_le _
  · rw [hrecov, hparams]
    exact accept_shapeOk (by omega) h.shape _ _ _ _
  rw [hrecov] at ht'
  rw [hparams]
  cases ht : st.recov.tracking with
  | none =>
    simp only [accept, ht] at ht'
    obtain rfl := Option.some.inj ht'
    simp only at ho'
    split at ho'
    · obtain rfl := Option.some.inj ho'
      exact takeAny_orderOk (by omega) hw
    · cases ho'
  | some t =>
    obtain ⟨hlen, -, -⟩ := Recovery.shapeOk_iff.mp h.shape t ht
    have hj := hjudge t ht
    obtain ⟨hdest, -⟩ := Tracking.judge_candidate hw hlen hj
    cases ho : t.ordered with
    | none =>
      have hnone : t'.ordered = none := by
        by_cases ha : 1 ≤ seqAhead q t.lead ∧ seqAhead q t.lead < st.params.window
        · rw [accept_of_ahead ht ha.1 ha.2] at ht'
          obtain rfl := Option.some.inj ht'
          simp [ho]
        · rw [accept_of_not_ahead ht ha] at ht'
          obtain rfl := Option.some.inj ht'
          simp [ho]
      cases hnone.symm.trans ho'
    | some o =>
      have hv : v = if e.isSome then .hold else .deliver := by
        obtain ⟨rfl, hv⟩ | ⟨rfl, x, rfl, -⟩ := hentry
        · rw [hdest] at hv ⊢
          simpa using (Tracking.destination_eq_deliver ho).mpr
            (not_not.mp (mt (Tracking.destination_eq_hold ho).mpr hv))
        · rfl
      have he : ∀ x, e = some x → x.seq = q := by
        rintro x rfl
        obtain ⟨he, -⟩ | ⟨-, y, hy, hseq⟩ := hentry
        · cases he
        · exact Option.some.inj hy ▸ hseq
      obtain ⟨-, -, t'', ht'', -, ho'', hqueued⟩ :=
        accept_queued (silence := st.params.silence) (now := now) (inOrder := st.params.mode.isInOrder) (by omega) hw ht ho
          (h.order t o ht ho) hlen (hv ▸ hj) he rfl rfl rfl rfl
      obtain rfl := Option.some.inj (ht'.symm.trans ht'')
      obtain rfl := Option.some.inj (ho'.symm.trans ho'')
      exact hqueued.run hw

theorem Stream.Lawful.expired {st st' : Stream} (h : st.Lawful) {t : Tracking} {o : Ordered} {now : Nat}
    (ht : st.recov.tracking = some t) (ho : t.ordered = some o) (hparams : st'.params = st.params)
    (hrecov : st'.recov = { st.recov with tracking := some (expireHold now t o).1 }) : st'.Lawful where
  width := hparams ▸ h.width
  rogue := hrecov ▸ h.rogue
  shape := by
    rw [hparams, hrecov]
    exact expireHold_shapeOk h.shape ht ho now
  order t' o' ht' ho' := by
    rw [hrecov] at ht'
    obtain rfl := Option.some.inj ht'
    exact hparams ▸ expireHold_orderOk h.width.2 (h.order t o ht ho) ho o' ho'

/-- An OTHER-CHANGED reconciliation that leaves mode and W (R42, R201). -/
theorem Stream.Lawful.otherChanged {st st' : Stream} (h : st.Lawful) {rogue silence now : Nat}
    (hwindow : st'.params.window = st.params.window)
    (hmode : st'.params.mode.isInOrder = st.params.mode.isInOrder)
    (hrecov : st'.recov = st.recov.otherChanged rogue silence now) : st'.Lawful where
  width := hwindow ▸ h.width
  rogue := by
    have := h.rogue
    rw [hrecov, Recovery.otherChanged]
    dsimp only
    split <;> omega
  shape := by
    rw [hwindow, hmode, hrecov]
    exact otherChanged_shapeOk h.shape _ _ _
  order t' o' ht' ho' := by
    rw [hrecov] at ht'
    obtain ⟨t, ht, rfl⟩ := Option.map_eq_some_iff.mp ht'
    exact hwindow ▸ (h.order t o' ht ho').congr rfl rfl

/-! ## The merge engine's records -/

theorem Merge.HandOk.of_none {m : Merge} (h : m.hand = none) : m.HandOk := fun _ _ _ _ hh => nomatch h.symm.trans hh

/-- The candidate in hand stays what the records make of it where each stream keeps its parameters and record. -/
theorem Merge.HandOk.of_find {m m' : Merge} (h : m.HandOk) (hhand : m'.hand = m.hand)
    (hfind : ∀ k st', m'.find k = some st' → ∃ st, m.find k = some st ∧ st'.params = st.params ∧ st'.recov = st.recov) :
    m'.HandOk := by
  intro a v ref st' hh hst'
  obtain ⟨st, hst, hparams, hrecov⟩ := hfind a.key st' hst'
  rw [hparams, hrecov]
  exact h a v ref st (hhand ▸ hh) hst

/-- The records keep their laws where one stream changes lawfully. -/
theorem Merge.RecoveryOk.upd {m m' : Merge} {k : Key} {f : Stream → Stream} (h : m.RecoveryOk)
    (hstreams : m'.streams = (m.upd k f).streams) (hkey : ∀ x, (f x).key = x.key)
    (hlawful : ∀ x ∈ m.streams, m.find k = some x → (f x).Lawful) (hmgmt : m'.mgmt = m.mgmt) (hhand : m'.HandOk) :
    m'.RecoveryOk where
  keys := by
    rw [hstreams, Merge.upd_keys m k f hkey]
    exact h.keys
  streams y hy := by
    rw [hstreams] at hy
    obtain ⟨x, hx, hk, rfl⟩ | ⟨hy, -⟩ := Merge.mem_upd.mp hy
    · exact hlawful x hx (hk ▸ Merge.find_of_mem h.keys hx)
    · exact h.streams y hy
  management := hmgmt ▸ h.management
  hand := hhand

/-- The records keep their laws where the streams stay. -/
theorem Merge.RecoveryOk.of_streams {m m' : Merge} (h : m.RecoveryOk) (hstreams : m'.streams = m.streams)
    (hmgmt : m'.mgmt.rogue ≤ 255 ∧ m'.mgmt.shapeOk 32 false = true) (hhand : m'.HandOk) : m'.RecoveryOk :=
  ⟨hstreams ▸ h.keys, hstreams ▸ h.streams, hmgmt, hhand⟩

theorem Merge.HandOk.of_streams {m m' : Merge} (h : m.HandOk) (hstreams : m'.streams = m.streams)
    (hhand : m'.hand = m.hand) : m'.HandOk :=
  h.of_find hhand fun k st' hst' => ⟨st', by rwa [Merge.find, ← hstreams], rfl, rfl⟩

/-- The parameters that a directory record within its ranges carries (R21). -/
theorem window_of_inParamsOf {r : DirRecord} {p : InParams} (hwf : r.wf = true) (hp : inParamsOf r = some p) :
    2 ≤ p.window ∧ p.window ≤ 128 := by
  unfold inParamsOf at hp
  split at hp
  · rename_i f hf
    obtain rfl := Option.some.inj hp
    simp only [DirRecord.wf, hf, within, Bool.and_eq_true, decide_eq_true_eq] at hwf
    exact hwf.2.1.1.1
  · cases hp

/-- A judgement's candidate is what the judged record makes of it. -/
theorem judge_candidate_handOk {w rogue : Nat} {r : Recovery} {c : InCounts} {q : Seq} {f : Bool} {v : Verdict}
    (h : (judge w rogue r c q f).judged = .candidate v) :
    ((judge w rogue r c q f).recov.tracking = none → v = .takeAny) ∧
      ∀ t, (judge w rogue r c q f).recov.tracking = some t → t.judge w q = .candidate v := by
  have hreset {c : InCounts} {alarm : Bool} (h : (resetForArrival r c alarm).judged = .candidate v) :
      ((resetForArrival r c alarm).recov.tracking = none → v = .takeAny) ∧
        ∀ t, (resetForArrival r c alarm).recov.tracking = some t → t.judge w q = .candidate v :=
    ⟨fun _ => (Judged.candidate.inj h).symm, nofun⟩
  cases ht : r.tracking with
  | none =>
    simp only [judge, ht] at h ⊢
    exact ⟨fun _ => (Judged.candidate.inj h).symm, nofun⟩
  | some t =>
    cases hj : t.judge w q with
    | duplicate => simp only [judge, ht, hj, reduceCtorEq] at h
    | late => simp only [judge, ht, hj, reduceCtorEq] at h
    | candidate u =>
      cases f with
      | true =>
        simp only [judge, ht, hj] at h ⊢
        exact hreset h
      | false =>
        simp only [judge, ht, hj] at h ⊢
        refine ⟨nofun, fun t' ht' => ?_⟩
        obtain rfl := Option.some.inj ht'
        exact hj.trans h
    | outOfWindow =>
      cases f with
      | true =>
        simp only [judge, ht, hj] at h ⊢
        exact hreset h
      | false =>
        simp only [judge, ht, hj] at h ⊢
        split at h
        · rename_i hrogue
          rw [if_pos hrogue]
          exact hreset h
        · cases h

/-- Every operation of the merge engine keeps the laws of its records, where the pending entries carry records within their
ranges and fit the streams (R42). -/
theorem Merge.Change.recoveryOk {R : DirRecord → Prop} {m0 m m' : Merge} (h : Merge.Change R m0 m m')
    (hpending : ∀ e ∈ m0.pending, ∀ r ∈ e.record, r.wf = true) (hfit : m0.ChangesFit) (hm : m.RecoveryOk) : m'.RecoveryOk := by
  have hnone {m' : Merge} (hhand : m.hand = none) (h : m'.hand = m.hand) : m'.HandOk := .of_none (h.trans hhand)
  have hsame {m' : Merge} (hstreams : m'.streams = m.streams) (hhand : m'.hand = m.hand)
      (hmgmt : m'.mgmt = m.mgmt) : m'.RecoveryOk :=
    hm.of_streams hstreams (hmgmt ▸ hm.management) (hm.hand.of_streams hstreams hhand)
  cases h with
  | took e rest hqueue hhand => exact hsame rfl rfl rfl
  | deferred d => exact hsame rfl rfl rfl
  | ended d => exact hm.of_streams rfl hm.management (.of_none rfl)
  | withdrawn n => exact hsame rfl rfl rfl
  | counted k f =>
    have hcount (x : Stream) : ({ x with counts := f x } : Stream).params = x.params ∧
        ({ x with counts := f x } : Stream).recov = x.recov := ⟨rfl, rfl⟩
    refine hm.upd rfl (fun _ => rfl) (fun x hx _ => (hm.streams x hx).congr rfl rfl (hm.streams x hx).rogue) rfl ?_
    refine hm.hand.of_find rfl fun k' st' hst' => ?_
    rw [Merge.find_upd m k k' _ (by exact fun _ => rfl)] at hst'
    obtain ⟨st, hst, rfl⟩ := Option.map_eq_some_iff.mp hst'
    refine ⟨st, hst, ?_⟩
    split
    · exact hcount st
    · exact ⟨rfl, rfl⟩
  | mgmtCounted c => exact hsame rfl rfl rfl
  | handed h hh =>
    exact hm.of_streams rfl hm.management fun a v ref _ hhand => absurd (Option.some.inj hhand) (hh a v ref)
  | granted a v ref hhand hv =>
    refine hm.of_streams rfl hm.management fun a' v' ref' st hh hst => ?_
    obtain ⟨rfl, rfl, rfl⟩ := MergeHand.directory.inj (Option.some.inj hh)
    obtain ⟨-, hfresh, htracking⟩ := hm.hand a v none st hhand hst
    exact ⟨fun _ => hv, hfresh, htracking⟩
  | judged a st hfind hhand hand hcandidate =>
    refine hm.upd (k := a.key) rfl (fun _ => rfl) (fun x hx hxfind => ?_) rfl fun b v ref st' hh hst' => ?_
    · obtain rfl := Option.some.inj (hxfind.symm.trans hfind)
      exact (hm.streams x hx).judged rfl rfl
    · obtain ⟨rfl, rfl, hj⟩ := hcandidate b v ref hh
      have hst'' : (m.upd b.key _).find b.key = some st' := hst'
      rw [Merge.find_upd m b.key b.key _ (by exact fun _ => rfl), hfind, Option.map_some,
        if_pos (Merge.find_some hfind).2] at hst''
      obtain rfl := Option.some.inj hst''
      exact ⟨fun h => (nomatch h), judge_candidate_handOk hj⟩
  | accepted a v ref st entry now f d hhand hfind hentry =>
    obtain ⟨hgranted, hfresh, htracking⟩ := hm.hand a v ref st hhand hfind
    refine hm.upd (k := a.key) rfl (fun _ => rfl) (fun x hx hxfind => ?_) rfl (.of_none rfl)
    obtain rfl := Option.some.inj (hxfind.symm.trans hfind)
    refine (hm.streams x hx).accepted rfl rfl htracking ?_
    obtain ⟨href, he⟩ | ⟨hv, -, he⟩ := hentry
    · exact .inl ⟨he, hgranted href⟩
    · exact .inr ⟨hv, he⟩
  | removed k n hhand =>
    exact ⟨nodup_keys_sublist List.filter_sublist hm.keys, fun x hx => hm.streams x (List.mem_filter.mp hx).1, hm.management,
      hnone hhand rfl⟩
  | added e r p hhand he hr hp =>
    refine ⟨nodup_keys_added_stream hm.keys _ rfl, fun x hx => ?_, hm.management, hnone hhand rfl⟩
    obtain hx | hx := List.mem_append.mp hx
    · exact hm.streams x (List.mem_filter.mp hx).1
    · obtain rfl := List.mem_singleton.mp hx
      have hwf := hpending e he r (by simp [ChangeEntry.record, hr])
      exact .of_fresh (window_of_inParamsOf hwf hp) (Nat.zero_le _) rfl
  | recoveryChanged e r p hhand he hr hp =>
    have hwf := hpending e he r (by simp [ChangeEntry.record, hr])
    exact hm.upd rfl (fun _ => rfl) (fun x _ _ => .of_fresh (window_of_inParamsOf hwf hp) (Nat.zero_le _) rfl) rfl
      (hnone hhand rfl)
  | otherChanged e r p now d hhand hstreams he hr hp =>
    refine hm.upd (k := e.key) rfl (fun _ => rfl) (fun x hx hfind => ?_) rfl (hnone hhand rfl)
    obtain ⟨hwindow, hmode⟩ := hfit e he r p x hr hp (by rwa [Merge.find, ← hstreams])
    exact (hm.streams x hx).otherChanged hwindow hmode rfl
  | reconciled k => exact hsame rfl rfl rfl
  | silenced k f hhand =>
    exact hm.upd rfl (fun _ => rfl) (fun x hx _ => .of_fresh (hm.streams x hx).width (Nat.zero_le _) rfl) rfl
      (hnone hhand rfl)
  | expired k st t o now f hhand hfind ht ho =>
    refine hm.upd (k := k) rfl (fun _ => rfl) (fun x hx hxfind => ?_) rfl (hnone hhand rfl)
    obtain rfl := Option.some.inj (hxfind.symm.trans hfind)
    exact (hm.streams x hx).expired ht ho rfl rfl
  | mgmtJudged q f c c' =>
    obtain ⟨hrogue, hshape⟩ := hm.management
    exact hm.of_streams rfl ⟨judge_rogue_le hrogue _ _ _ _ _, judge_shapeOk hshape _ _ _ _⟩ (hm.hand.of_streams rfl rfl)
  | mgmtAccepted now q c =>
    obtain ⟨-, hshape⟩ := hm.management
    refine hm.of_streams rfl ⟨?_, accept_shapeOk (by decide) hshape _ _ _ _⟩ (hm.hand.of_streams rfl rfl)
    have := (accept_tracks Config.managementWindow Config.managementSilence false now m.mgmt q none).2.1
    rw [this]
    exact Nat.zero_le _
  | mgmtReset c =>
    exact hm.of_streams rfl ⟨Nat.zero_le _, Recovery.shapeOk_of_fresh rfl _ _⟩ (hm.hand.of_streams rfl rfl)
  | requested g cs hcs => exact hsame rfl rfl rfl
  | trafficRestart =>
    have hkeys : (m.streams.map Stream.trafficReset).map (·.key) = m.streams.map (·.key) := by
      rw [List.map_map]
      rfl
    refine ⟨hkeys.symm ▸ hm.keys, fun y hy => ?_, ⟨Nat.zero_le _, Recovery.shapeOk_of_fresh rfl _ _⟩, .of_none rfl⟩
    obtain ⟨x, hx, rfl⟩ := List.mem_map.mp hy
    exact .of_fresh (hm.streams x hx).width (Nat.zero_le _) rfl
  | poweredOn hand born =>
    exact ⟨List.nodup_nil, fun _ hx => absurd hx List.not_mem_nil,
      ⟨Nat.zero_le _, Recovery.shapeOk_of_fresh rfl _ _⟩, .of_none rfl⟩

theorem Merge.Changes.recoveryOk {R : DirRecord → Prop} {m0 m m' : Merge} (h : Merge.Changes R m0 m m')
    (hpending : ∀ e ∈ m0.pending, ∀ r ∈ e.record, r.wf = true) (hfit : m0.ChangesFit) (hm : m.RecoveryOk) : m'.RecoveryOk := by
  induction h with
  | refl => exact hm
  | tail _ hstep ih => exact hstep.recoveryOk hpending hfit ih

/-! ## Directory records from the request to the parameter copies (R13, R182) -/

/-- The entries of an area that is long enough have their full length. -/
theorem length_of_mem_chunks {len n : Nat} {bs : List Byte} (h : n * len ≤ bs.length) {e : List Byte}
    (he : e ∈ chunks len n bs) : e.length = len := by
  induction n generalizing bs with
  | zero => cases he
  | succ n ih =>
    rw [Nat.succ_mul] at h
    obtain rfl | he := List.mem_cons.mp he
    · rw [List.length_take]
      omega
    · exact ih (by rw [List.length_drop]; omega) he

/-- What a well-formed request passes (R13). -/
theorem malformedKind_eq_none {k : ReqKind} {p : List Byte} (h : malformedKind k p = none) :
    tableOk k (reqTable p) = true ∧ countOk k (reqTable p) (reqCount p) = true ∧
      p.length = requestLength k (reqTable p) (reqCount p) ∧
      ∀ e ∈ requestEntries k p,
        rangeOk k (reqTable p) e = true ∧ keyOk k (reqTable p) e = true ∧ fillOk k (reqTable p) e = true := by
  unfold malformedKind at h
  dsimp only at h
  split at h
  · cases h
  rename_i hlen
  split at h
  · cases h
  rename_i htable
  split at h
  · cases h
  rename_i hcount
  split at h
  · cases h
  rename_i hrange
  split at h
  · cases h
  rename_i hkey
  split at h
  · cases h
  rename_i hfill
  simp only [Bool.not_eq_true', Bool.not_eq_false] at htable hcount
  simp only [htable, hcount, Bool.true_and, bne_iff_ne, ne_eq, not_not] at hlen
  rw [List.findIdx?_eq_none_iff] at hrange hkey hfill
  exact ⟨htable, hcount, hlen, fun e he => ⟨by simpa using hrange e he, by simpa using hkey e he, by simpa using hfill e he⟩⟩

/-- The records that a well-formed request carries have the values of R21. -/
theorem FromRequest.wf {r : DirRecord} (h : FromRequest r) : r.wf = true := by
  obtain ⟨p, rs, hparse, hr⟩ := h
  unfold parseRequest at hparse
  split at hparse
  · cases hparse
  split at hparse
  · cases hparse
  rename_i k hk
  split at hparse
  · cases hparse
  rename_i hwell
  obtain ⟨-, -, hlen, hentries⟩ := malformedKind_eq_none hwell
  have hops := Except.ok.inj hparse
  cases k with
  | put =>
    have htable : reqTable p = 1 ∧ (requestEntries .put p).map decodeDir = rs := by
      unfold decodeOperands at hops
      dsimp only at hops
      split at hops
      · rename_i ht
        exact ⟨ht, Req.putDirectory.inj hops⟩
      all_goals cases hops
    obtain ⟨ht, rfl⟩ := htable
    obtain ⟨e, he, rfl⟩ := List.mem_map.mp hr
    obtain ⟨hrange, hkey, -⟩ := hentries e he
    rw [ht] at hrange hkey hlen
    refine decodeDir_wf (length_of_mem_chunks (n := reqCount p) (bs := operandArea .put p) ?_ ?_) hrange
      (by simpa [keyOk] using hkey)
    · rw [operandArea, ht, slice, List.length_take, List.length_drop, hlen]
      simp [requestLength, operandLength, entryLength]
      omega
    · simpa only [requestEntries, ht, entryLength] using he
  | read =>
    unfold decodeOperands at hops
    dsimp only at hops
    split at hops <;> cases hops
  | readStats =>
    unfold decodeOperands at hops
    dsimp only at hops
    split at hops <;> cases hops
  | _ => cases hops

theorem mem_of_findRecord {b : List DirRecord} {k : Key} {r : DirRecord} (h : findRecord b k = some r) : r ∈ b :=
  List.mem_of_find?_eq_some h

/-- A change list carries records of the new bank (R42). -/
theorem mem_of_mem_changeList {old new : List DirRecord} {e : ChangeEntry} (he : e ∈ changeList old new) {r : DirRecord}
    (hr : r ∈ e.record) : r ∈ new := by
  obtain ⟨k, -, he⟩ := List.mem_flatMap.mp he
  unfold changeOf at he
  split at he
  · cases he
  · obtain rfl := List.mem_singleton.mp he
    cases hr
  · rename_i x hx
    obtain rfl := List.mem_singleton.mp he
    obtain rfl := List.mem_singleton.mp hr
    exact mem_of_findRecord hx
  · rename_i o x ho hx
    split at he
    · cases he
    · split at he
      · obtain rfl := List.mem_singleton.mp he
        unfold inboundChange at hr
        split at hr <;> (obtain rfl := List.mem_singleton.mp hr; exact mem_of_findRecord hx)
      · obtain rfl := List.mem_singleton.mp he
        obtain rfl := List.mem_singleton.mp hr
        exact mem_of_findRecord hx
      · obtain rfl | he := List.mem_cons.mp he
        · cases hr
        · obtain rfl := List.mem_singleton.mp he
          obtain rfl := List.mem_singleton.mp hr
          exact mem_of_findRecord hx

/-- A message that a command may send: one of those the agent may send, or the report of the classifier's swap. -/
def State.NewMsg (s : State) (c : Instr) (m : Msg) : Prop :=
  s.MaySend c m ∨
    (c = .classifierSwap ∧ ∃ sh gen params, s.cls.shadow = some sh ∧
      m = .swapReport (some { gen := gen, params := params, changes := changeList s.cls.bank sh.bank }))

/-- What is on its way after a command was so before or is new; what is deferred at the agent was there or on its way. -/
structure State.Sent (s : State) (c : Instr) (t : State) : Prop where
  net : ∀ m ∈ t.net, m ∈ s.net ∨ s.NewMsg c m
  deferred : ∀ m ∈ t.agt.deferred, m ∈ s.net ++ s.agt.deferred ∨ s.NewMsg c m

theorem State.Sent.mem {c : Instr} {s t : State} (h : s.Sent c t) {m : Msg} (hm : m ∈ t.net ++ t.agt.deferred) :
    m ∈ s.net ++ s.agt.deferred ∨ s.NewMsg c m :=
  (List.mem_append.mp hm).elim (fun hm => (h.net m hm).imp (List.mem_append_left _) id) (h.deferred m)

theorem exec_sent_cases {c : Instr} {b : Block} {s t : State} (hc : c.home = some b) (h : exec c s = .next t) :
    s.Sent c t := by
  have hplain {n : List Msg} (hn : SendsPlain s.net n) (hnet : t.net = n) (hagt : t.agt.deferred = s.agt.deferred) :
      s.Sent c t :=
    ⟨fun m hm => (hn m (hnet ▸ hm)).imp id fun h => .inl (s.maySend_of_plain c m h),
      fun _ hm => .inl (List.mem_append_right _ (hagt ▸ hm))⟩
  have hsent {rest : List Msg} {m : Msg} (hrest : rest.Sublist s.net) (hm : m.plain = true) :
      SendsPlain s.net (rest ++ [m]) :=
    (SendsPlain.of_sublist hrest).trans (.append fun x hx => List.mem_singleton.mp hx ▸ hm)
  cases exec_homeFrame hc h with
  | receiver p hc h => obtain ⟨x, n, rfl, hn, -⟩ := h; exact hplain hn rfl rfl
  | linkChange p st x hc h => obtain ⟨y, n, rfl, hn, -⟩ := h; exact hplain hn rfl rfl
  | classifier hc hclassify h => obtain ⟨x, n, rfl, hn, -⟩ := h; exact hplain hn rfl rfl
  | classifierSet hc h =>
    cases h with
    | swapped rest sh htake hsh =>
      refine ⟨fun m hm => ?_, fun m hm => .inl (List.mem_append_right _ hm)⟩
      simp only [State.took, State.withCls, List.mem_append, List.mem_singleton] at hm
      obtain hm | rfl := hm
      · exact .inl ((takeFirst_sublist htake).subset hm)
      · exact .inr (.inr ⟨rfl, sh, _, _, hsh, rfl⟩)
    | restarted rest hrest => exact hplain (hsent hrest rfl) rfl rfl
  | classify p hc h => obtain ⟨x, mq, rq, aq, n, hn, -, -, -, -, rfl⟩ := h; exact hplain hn rfl rfl
  | merge hc h => obtain ⟨x, n, rfl, hn, -⟩ := h; exact hplain hn rfl rfl
  | mergeWrites hc ref rest hgranted hrest h =>
    obtain ⟨bytes, x, n, rfl, hn, -⟩ := h
    exact hplain (hrest.trans hn) rfl rfl
  | admission hc hrefill h => obtain ⟨x, n, rfl, hn, -⟩ := h; exact hplain hn rfl rfl
  | admissionSet hc h =>
    cases h with
    | swapped rest sh htake hsh => exact hplain (hsent (takeFirst_sublist htake) rfl) rfl rfl
    | restarted rest hrest => exact hplain (hsent hrest rfl) rfl rfl
  | refill hc h => exact hplain (.refl _) (by rw [h]) (by rw [h])
  | replicator hc h => obtain ⟨x, n, rfl, hn, -⟩ := h; exact hplain hn rfl rfl
  | replicatorWrites hc ref rest hgranted hrest h =>
    obtain ⟨bytes, x, n, rfl, hn, -⟩ := h
    exact hplain (hrest.trans hn) rfl rfl
  | egress hc h => obtain ⟨x, n, rfl, hn, -⟩ := h; exact hplain hn rfl rfl
  | egressSet hc h =>
    cases h with
    | swapped rest v htake hv => exact hplain (hsent (takeFirst_sublist htake) rfl) rfl rfl
    | restarted rest hrest => exact hplain (hsent hrest rfl) rfl rfl
  | agent hc htick u hu h =>
    obtain ⟨x, n, hu', hn, -⟩ := hu.frame
    have hnet : ∀ m ∈ u.net, m ∈ s.net ∨ s.NewMsg c m := by
      intro m hm
      rw [hu'] at hm
      exact (hn m hm).imp id fun h => .inl (s.maySend_of_plain c m h)
    refine ⟨fun m hm => (h.sent m hm).elim (hnet m) fun h => .inr (.inl h), fun m hm => ?_⟩
    obtain hm | hm | hm := h.deferred m hm
    · exact .inl (List.mem_append_right _ (hu.agt ▸ hm))
    · exact (hnet m hm).imp (List.mem_append_left _) id
    · exact .inr (.inl hm)
  | tick hc h => exact hplain (.refl _) (by rw [h]) (by rw [h])

/-- A new message carries records of the request in hand, of a request, of the classifier's shadow or of a message there. -/
theorem State.NewMsg.records {s : State} {c : Instr} {m : Msg} (h : s.NewMsg c m) {r : DirRecord} (hr : r ∈ m.records) :
    r ∈ s.agt.handRecords ∨ FromRequest r ∨ (∃ sh, s.cls.shadow = some sh ∧ r ∈ sh.bank) ∨
      ∃ m' ∈ s.net ++ s.agt.deferred, r ∈ m'.records := by
  obtain h | ⟨-, sh, gen, params, hsh, rfl⟩ := h
  · cases m with
    | recordWrite rs => exact (h r hr).imp id .inl
    | swapReport x =>
      cases x with
      | none => cases hr
      | some x => exact h.elim
    | reconcile b g cs l =>
      obtain ⟨x, hx, rfl⟩ := h
      exact .inr (.inr (.inr ⟨_, hx, hr⟩))
    | _ => cases hr
  · obtain ⟨e, he, hr⟩ := List.mem_flatMap.mp hr
    exact .inr (.inr (.inl ⟨sh, hsh, mem_of_mem_changeList he hr⟩))

/-- Entries pending at the merge engine come from a reconciliation request. -/
theorem Merge.Changes.pending {R : DirRecord → Prop} {m0 m m' : Merge} (h : Merge.Changes R m0 m m') :
    ∀ e ∈ m'.pending, e ∈ m.pending ∨ ∀ r ∈ e.record, R r := by
  induction h with
  | refl => exact fun e he => .inl he
  | tail _ hstep ih =>
    intro e he
    cases hstep with
    | reconciled k => exact ih e (List.mem_filter.mp he).1
    | requested g cs hcs => exact .inr (hcs e he)
    | poweredOn hand born => cases he
    | _ => exact ih e he

/-- A part with nothing staged and nothing on its way. -/
theorem State.RecordsOk.of_empty {s : State} (hbank : s.cls.bank = []) (hshadow : s.cls.shadow = none)
    (hhand : s.agt.handRecords = []) (hnet : s.net = []) (hdeferred : s.agt.deferred = []) (hmerge : s.mrg.pending = [])
    (hrep : s.rep.pending = []) : s.RecordsOk where
  active := by simp [hbank]
  shadow := by simp [hshadow]
  hand := by simp [hhand]
  sent := by simp [hnet, hdeferred]
  pending := by simp [hmerge, hrep]

theorem Merge.RecoveryOk.of_empty {m : Merge} (hstreams : m.streams = []) (hmgmt : m.mgmt = .fresh 0) (hhand : m.hand = none) :
    m.RecoveryOk where
  keys := by simp [hstreams]
  streams := by simp [hstreams]
  management := by
    rw [hmgmt]
    exact ⟨Nat.zero_le _, Recovery.shapeOk_of_fresh rfl _ _⟩
  hand := .of_none hhand

theorem exec_recordsOk {c : Instr} {s t : State} (hs : s.RecordsOk) (h : exec c s = .next t) : t.RecordsOk := by
  refine exec_keeps h (fun _ _ _ _ => .of_empty rfl rfl rfl rfl rfl rfl rfl) fun b hc => ?_
  have hsent : ∀ r, s.RecordSent r → r.wf = true := fun r ⟨m, hm, hr⟩ => hs.sent m (List.mem_append_left _ hm) r hr
  refine ⟨fun r hr => ?_, fun sh hsh r hr => ?_, fun r hr => ?_, fun m hm r hr => ?_, fun e he r hr => ?_⟩
  · obtain hk | hset := exec_cls_cases hc h
    · exact hs.active r (hk.bank ▸ hr)
    · cases hset with
      | swapped rest sh htake hsh => exact hs.shadow sh hsh r hr
      | restarted rest hrest => cases hr
  · obtain hk | hset := exec_cls_cases hc h
    · obtain hr | ⟨sh', hsh', hr⟩ | hr := hk.staged sh hsh r hr
      · exact hs.active r hr
      · exact hs.shadow sh' hsh' r hr
      · exact hsent r hr
    · cases hset with
      | swapped rest sh' htake hsh' => cases hsh
      | restarted rest hrest => cases hsh
  · obtain ⟨u, hu, hop⟩ | ha | ⟨q, -, ha⟩ := exec_agt_cases hc h
    · exact (hop.records r hr).elim (fun hr => hs.hand r (hu.agt ▸ hr)) FromRequest.wf
    · rw [ha] at hr
      exact hs.hand r hr
    · rw [ha] at hr
      exact hs.hand r hr
  · obtain hm | hm := (exec_sent_cases hc h).mem hm
    · exact hs.sent m hm r hr
    · obtain hr | hr | ⟨sh, hsh, hr⟩ | ⟨m', hm', hr⟩ := hm.records hr
      · exact hs.hand r hr
      · exact hr.wf
      · exact hs.shadow sh hsh r hr
      · exact hs.sent m' hm' r hr
  · obtain he | he := List.mem_append.mp he
    · have he : e ∈ s.mrg.pending ∨ ∀ r ∈ e.record, s.RecordSent r := by
        obtain hm | ⟨q, -, hm⟩ := exec_mrg_cases hc h
        · exact hm.pending e he
        · rw [hm] at he
          exact .inl he
      exact he.elim (fun he => hs.pending e (List.mem_append_left _ he) r hr) fun he => hsent r (he r hr)
    · have he : e ∈ s.rep.pending ∨ ∀ r ∈ e.record, s.RecordSent r := by
        obtain hk | ⟨q, x, -, hk⟩ := exec_rep_cases hc h
        · exact hk.pending e he
        · rw [hk] at he
          exact .inl he
      exact he.elim (fun he => hs.pending e (List.mem_append_right _ he) r hr) fun he => hsent r (he r hr)

theorem exec_recoveryOk {c : Instr} {s t : State} (hrecords : s.RecordsOk) (hfit : s.mrg.ChangesFit) (hs : s.mrg.RecoveryOk)
    (h : exec c s = .next t) : t.mrg.RecoveryOk := by
  refine exec_keeps (I := fun t => t.mrg.RecoveryOk) h (fun _ _ _ _ => .of_empty rfl rfl rfl) fun b hc => ?_
  obtain hm | ⟨q, -, hm⟩ := exec_mrg_cases hc h
  · exact hm.recoveryOk (fun e he => hrecords.pending e (List.mem_append_left _ he)) hfit hs
  · rw [hm]
    exact hs.of_streams rfl hs.management (hs.hand.of_streams rfl rfl)

/-- Settles O30. -/
theorem recoveryRecordsKeepTheirShape : Obligations.RecoveryRecordsKeepTheirShape := by
  refine ⟨fun w b r hw2 hw hr => ⟨fun rogue c q f => judge_shapeOk hr rogue c q f,
    fun silence now q e => accept_shapeOk (by omega) hr silence now q e,
    fun now t o ht ho => expireHold_shapeOk hr ht ho now, fun rogue silence now => otherChanged_shapeOk hr rogue silence now⟩,
    fun s t hs h => ?_, fun s t hrecords hfit hs h => ?_⟩
  · exact step_keeps (I := State.RecordsOk) (fun _ _ h => ⟨h.active, h.shadow, h.hand, h.sent, h.pending⟩)
      (fun _ _ _ => exec_recordsOk) hs h
  · unfold step at h
    split at h
    · exact next_eq_next.mp h ▸ hs
    · rename_i _ cs _
      have hrecords' : (s.withPending cs).RecordsOk :=
        ⟨hrecords.active, hrecords.shadow, hrecords.hand, hrecords.sent, hrecords.pending⟩
      exact exec_recoveryOk hrecords' hfit hs h

end Sys2Proof.Machine
end

section
set_option Elab.async false
/-! The law of the agent's states (R156, R161, R179), and how it comes to COMMITTING and to a CHECKED shadow (R190, R192). -/

namespace Sys2Proof.Machine

/-! ## What the law of a state says of each agent state -/

section
variable {a : Agent}

theorem Agent.modeOk_of_noSession (h : a.mode = .noSession) :
    a.modeOk ↔ a.session = none ∧ a.shadow = .absent ∧ a.progress = none ∧ a.check = none ∧ a.commit = none ∧
      a.restart = none := by
  simp only [Agent.modeOk, h]

theorem Agent.modeOk_of_session (h : a.mode = .session) :
    a.modeOk ↔ a.session.isSome = true ∧ a.progress = none ∧ a.check = none ∧ a.commit = none ∧ a.restart = none := by
  simp only [Agent.modeOk, h]

theorem Agent.modeOk_of_checking (h : a.mode = .checking) :
    a.modeOk ↔ a.session.isSome = true ∧ a.progress.isSome = true ∧ a.check.isSome = true ∧ a.commit = none ∧
      a.restart = none ∧ ∃ rem, a.shadow = .dirty rem := by
  simp only [Agent.modeOk, h]

theorem Agent.modeOk_of_committing (h : a.mode = .committing) :
    a.modeOk ↔ a.session.isSome = true ∧ a.progress.isSome = true ∧ a.check = none ∧ a.commit.isSome = true ∧
      a.restart = none ∧ ∃ rem, a.shadow = .checked rem := by
  simp only [Agent.modeOk, h]

theorem Agent.modeOk_of_restarting (h : a.mode = .restarting) :
    a.modeOk ↔ a.progress.isSome = true ∧ a.check = none ∧ a.commit = none ∧
      ∃ w, a.restart = some w ∧ a.restartOk w := by
  simp only [Agent.modeOk, h]

/-- A check is under way in CHECKING alone. -/
theorem Agent.modeOk_of_check {w : CheckWork} (h : a.modeOk) (hw : a.check = some w) :
    a.mode = .checking ∧ a.session.isSome = true ∧ a.progress.isSome = true ∧ a.commit = none ∧ a.restart = none := by
  cases hm : a.mode with
  | noSession => obtain ⟨-, -, -, hc, -⟩ := (Agent.modeOk_of_noSession hm).mp h; cases hc.symm.trans hw
  | session => obtain ⟨-, -, hc, -⟩ := (Agent.modeOk_of_session hm).mp h; cases hc.symm.trans hw
  | checking =>
    obtain ⟨hs, hp, -, hc, hr, -⟩ := (Agent.modeOk_of_checking hm).mp h
    exact ⟨rfl, hs, hp, hc, hr⟩
  | committing => obtain ⟨-, -, hc, -⟩ := (Agent.modeOk_of_committing hm).mp h; cases hc.symm.trans hw
  | restarting => obtain ⟨-, hc, -⟩ := (Agent.modeOk_of_restarting hm).mp h; cases hc.symm.trans hw

/-- A commit is under way in COMMITTING alone. -/
theorem Agent.modeOk_of_commit {w : CommitWork} (h : a.modeOk) (hw : a.commit = some w) :
    a.mode = .committing ∧ a.session.isSome = true ∧ a.progress.isSome = true ∧ a.check = none ∧ a.restart = none := by
  cases hm : a.mode with
  | noSession => obtain ⟨-, -, -, -, hc, -⟩ := (Agent.modeOk_of_noSession hm).mp h; cases hc.symm.trans hw
  | session => obtain ⟨-, -, -, hc, -⟩ := (Agent.modeOk_of_session hm).mp h; cases hc.symm.trans hw
  | checking => obtain ⟨-, -, -, hc, -⟩ := (Agent.modeOk_of_checking hm).mp h; cases hc.symm.trans hw
  | committing =>
    obtain ⟨hs, hp, hc, -, hr, -⟩ := (Agent.modeOk_of_committing hm).mp h
    exact ⟨rfl, hs, hp, hc, hr⟩
  | restarting => obtain ⟨-, -, hc, -⟩ := (Agent.modeOk_of_restarting hm).mp h; cases hc.symm.trans hw

/-- A restart is under way in RESTARTING alone. -/
theorem Agent.modeOk_of_restart {w : RestartWork} (h : a.modeOk) (hw : a.restart = some w) :
    a.mode = .restarting ∧ a.progress.isSome = true ∧ a.check = none ∧ a.commit = none ∧ a.restartOk w := by
  cases hm : a.mode with
  | noSession => obtain ⟨-, -, -, -, -, hc⟩ := (Agent.modeOk_of_noSession hm).mp h; cases hc.symm.trans hw
  | session => obtain ⟨-, -, -, -, hc⟩ := (Agent.modeOk_of_session hm).mp h; cases hc.symm.trans hw
  | checking => obtain ⟨-, -, -, -, hc, -⟩ := (Agent.modeOk_of_checking hm).mp h; cases hc.symm.trans hw
  | committing => obtain ⟨-, -, -, -, hc, -⟩ := (Agent.modeOk_of_committing hm).mp h; cases hc.symm.trans hw
  | restarting =>
    obtain ⟨hp, hc, hcommit, w', hw', hok⟩ := (Agent.modeOk_of_restarting hm).mp h
    obtain rfl := Option.some.inj (hw'.symm.trans hw)
    exact ⟨rfl, hp, hc, hcommit, hok⟩

/-- The request in hand stages: it waits for its shadow or for its write (R180). -/
def HandStage.Stages (g : HandStage) : Prop := (∃ r w, g = .creating r w) ∨ ∃ f, g = .writing f

/-- Outside SESSION nothing staging is in hand, and no discard of an ABANDON is under way. -/
theorem Agent.handOk_of {b : Agent} (hhand : ∀ h, b.hand = some h → ¬ h.stage.Stages)
    (hdiscard : ∀ d, b.discard = some d → d.why ≠ .abandoning) : b.handOk :=
  ⟨fun h hh hs => absurd hs (hhand h hh), fun d hd hw => absurd hw (hdiscard d hd)⟩

theorem Agent.handOk_of_session {b : Agent} (h : b.mode = .session) : b.handOk := ⟨fun _ _ _ => h, fun _ _ _ => h⟩

/-- Outside SESSION no request in hand stages. -/
theorem Agent.Ok.not_stages (h : a.Ok) (hm : a.mode ≠ .session) {x : AgentHand} (hx : a.hand = some x) :
    ¬ x.stage.Stages := fun hs => hm (h.hand.1 x hx hs)

/-- Outside SESSION no discard of an ABANDON is under way. -/
theorem Agent.Ok.not_abandoning (h : a.Ok) (hm : a.mode ≠ .session) {d : DiscardWork} (hd : a.discard = some d) :
    d.why ≠ .abandoning := fun hw => hm (h.hand.2 d hd hw)

end

/-! ## What an operation of the agent makes of its state -/

/-- An operation enters COMMITTING at no time, makes no shadow CHECKED, and keeps the agent's law. -/
structure Agent.Law (a b : Agent) : Prop where
  committing : b.mode = .committing → a.mode = .committing
  checked : ∀ rem, b.shadow = .checked rem → a.shadow = .checked rem
  ok : a.Ok → b.Ok

section
variable {a b c : Agent}

theorem Agent.Law.refl (a : Agent) : a.Law a := ⟨id, fun _ => id, id⟩

theorem Agent.Law.trans (h : a.Law b) (h' : b.Law c) : a.Law c :=
  ⟨h.committing ∘ h'.committing, fun rem => h.checked rem ∘ h'.checked rem, h'.ok ∘ h.ok⟩

/-- An operation that leaves what the law speaks of: in particular no request in hand begins to stage, and no discard becomes
one of an ABANDON. -/
theorem Agent.Law.of_same (hmode : b.mode = a.mode := by rfl) (hsession : b.session.isSome = a.session.isSome := by rfl)
    (hshadow : b.shadow = a.shadow := by rfl) (hprogress : b.progress.isSome = a.progress.isSome := by rfl)
    (hcheck : b.check.isSome = a.check.isSome := by rfl) (hcommit : b.commit.isSome = a.commit.isSome := by rfl)
    (hrestart : b.restart = a.restart := by rfl)
    (hhand : ∀ h, b.hand = some h → h.stage.Stages → ∃ h', a.hand = some h' ∧ h'.stage.Stages := by
      exact fun h hh hs => ⟨h, hh, hs⟩)
    (hdiscard : ∀ d, b.discard = some d → d.why = .abandoning → ∃ d', a.discard = some d' ∧ d'.why = .abandoning := by
      exact fun d hd hw => ⟨d, hd, hw⟩) : a.Law b := by
  have hnone {α : Type} {x y : Option α} (h : x.isSome = y.isSome) : x = none ↔ y = none := by
    cases x <;> cases y <;> simp at h ⊢
  have hrestartOk (w : RestartWork) : b.restartOk w ↔ a.restartOk w := by
    simp only [Agent.restartOk, hsession, hnone hsession, hshadow]
  refine ⟨fun h => hmode ▸ h, fun rem h => hshadow ▸ h, fun h => ⟨?_, fun x hx hs => ?_, fun d hd hw => ?_⟩⟩
  · have hok := h.mode
    unfold Agent.modeOk at hok ⊢
    rw [hmode]
    simp only [hsession, hnone hsession, hshadow, hprogress, hnone hprogress, hcheck, hnone hcheck, hcommit, hnone hcommit,
      hrestart, hrestartOk]
    exact hok
  · obtain ⟨y, hy, hys⟩ := hhand x hx hs
    exact hmode ▸ h.hand.1 y hy hys
  · obtain ⟨e, he, hew⟩ := hdiscard d hd hw
    exact hmode ▸ h.hand.2 e he hew

/-- In SESSION the shadow, the request in hand and the discard under way may be any. -/
theorem Agent.Law.of_session {sh : ShadowStatus} {d : Option DiscardWork} {x : Option AgentHand}
    (hsh : ∀ rem, sh = .checked rem → a.shadow = .checked rem) (hmode : a.Ok → a.mode = .session) :
    a.Law { a with shadow := sh, discard := d, hand := x } := by
  refine ⟨id, hsh, fun h => ⟨?_, Agent.handOk_of_session (hmode h)⟩⟩
  have hold := (Agent.modeOk_of_session (hmode h)).mp h.mode
  exact (Agent.modeOk_of_session (a := { a with shadow := sh, discard := d, hand := x }) (hmode h)).mpr hold

/-- A request in hand goes to a stage that does not stage. -/
theorem Agent.Law.setStage (a : Agent) {g : HandStage} (hg : ¬ g.Stages) : a.Law (a.setStage g) := by
  refine .of_same (hhand := fun h hh hs => ?_)
  obtain ⟨x, -, rfl⟩ := Option.map_eq_some_iff.mp hh
  exact absurd hs hg

theorem HandStage.not_stages_replying : ¬ HandStage.replying.Stages := by simp [HandStage.Stages]

theorem HandStage.not_stages_discarding : ¬ HandStage.discarding.Stages := by simp [HandStage.Stages]

theorem HandStage.not_stages_reading (r : Req) (w : List Block) (got : List (Block × ReadAnswer)) :
    ¬ (HandStage.reading r w got).Stages := by simp [HandStage.Stages]

end

theorem State.Outputs.law {s t : State} (h : s.Outputs t) : s.agt.Law t.agt := by
  obtain ⟨ca, re, ou, ha, ho, n, -, rfl⟩ := h
  exact .of_same

section
variable (s : State)

theorem State.answer_law (h : AgentHand) (st : Status) (detail : Nat) (results : List Byte) :
    s.agt.Law (s.answer h st detail results).agt :=
  (Agent.Law.setStage s.agt HandStage.not_stages_replying).trans (s.answer_outputs h st detail results).law

/-- A discard begins, of another cause than an ABANDON. -/
theorem State.discardShadow_law {why : DiscardWhy} (hwhy : why ≠ .abandoning) : s.agt.Law (s.discardShadow why).agt :=
  .of_same (hdiscard := fun d hd hw => by
    obtain rfl := Option.some.inj hd
    exact absurd hw hwhy)

/-- The session ends (R163). -/
theorem State.endSession_law {why : DiscardWhy} (hwhy : why ≠ .abandoning)
    (hhand : ∀ h, s.agt.hand = some h → ¬ h.stage.Stages) (hmode : s.agt.mode = .session) :
    s.agt.Law (s.endSession why).agt := by
  refine ⟨nofun, nofun, fun h => ⟨?_, Agent.handOk_of hhand fun d hd => ?_⟩⟩
  · obtain ⟨-, hp, hc, hcommit, hr⟩ := (Agent.modeOk_of_session hmode).mp h.mode
    exact (Agent.modeOk_of_noSession rfl).mpr ⟨rfl, rfl, hp, hc, hcommit, hr⟩
  · obtain rfl := Option.some.inj hd
    exact hwhy

/-- A CHECK or COMMIT in progress is answered: the agent is in SESSION again, with nothing under way. -/
theorem State.answerProgress_law (q : InProgress) (st : Status) (detail : Nat)
    (h : s.agt.session.isSome = true ∧ s.agt.check = none ∧ s.agt.commit = none ∧ s.agt.restart = none) :
    (s.answerProgress q st detail).agt.Ok ∧ (s.answerProgress q st detail).agt.mode = .session ∧
      (s.answerProgress q st detail).agt.shadow = s.agt.shadow := by
  obtain ⟨hsession, hcheck, hcommit, hrestart⟩ := h
  obtain ⟨ca, re, ou, ha, ho, n, -, heq⟩ := s.answerProgress_outputs q st detail
  rw [heq]
  refine ⟨⟨(Agent.modeOk_of_session rfl).mpr ⟨?_, rfl, hcheck, hcommit, hrestart⟩, Agent.handOk_of_session rfl⟩, rfl, rfl⟩
  exact (Option.isSome_map ..).trans hsession

/-- A commit begins (R193). -/
theorem State.beginCommit_ok (hmode : s.agt.session.isSome = true ∧ s.agt.progress.isSome = true ∧ s.agt.check = none ∧
      s.agt.restart = none) (hshadow : ∃ rem, s.agt.shadow = .checked rem)
    (hdiscard : ∀ d, s.agt.discard = some d → d.why ≠ .abandoning) : s.beginCommit.agt.Ok := by
  obtain ⟨hsession, hprogress, hcheck, hrestart⟩ := hmode
  refine ⟨(Agent.modeOk_of_committing rfl).mpr ⟨?_, hprogress, hcheck, rfl, hrestart, hshadow⟩, Agent.handOk_of nofun hdiscard⟩
  exact (Option.isSome_map ..).trans hsession

end

/-! ## Answers, reports and timers -/

section
variable (s : State)

theorem State.createAnswer_law (b : Block) : s.agt.Law (s.createAnswer b).agt := by
  unfold State.createAnswer
  split
  · rename_i sd p q w hhand
    have hstages (g : HandStage) : s.agt.Law (s.agt.setStage g) :=
      .of_same (hhand := fun h hh hs => ⟨_, hhand, .inl ⟨q, w, rfl⟩⟩)
    dsimp only
    split
    · exact hstages _
    · exact hstages _
  · exact .refl _

theorem State.writeAnswer_law (r : WriteResult) : s.agt.Law (s.writeAnswer r).agt := by
  unfold State.writeAnswer
  split
  · rename_i sd p fresh hhand
    dsimp only
    split
    · refine Agent.Law.trans (b := (s.withAgt { s.agt with shadow := .dirty (crcRun s.agt.shadow.remainder (recordArea p)) }).agt) ?_
        (State.answer_law _ _ _ _ _)
      exact .of_session (d := s.agt.discard) (x := s.agt.hand) nofun fun h => h.hand.1 _ hhand (.inr ⟨fresh, rfl⟩)
    · exact Agent.Law.trans (b := (s.withAgt (s.agt.setStage .discarding)).agt)
        (.setStage s.agt HandStage.not_stages_discarding) (State.discardShadow_law _ (by simp))
    · exact s.answer_law _ _ _ _
  · exact .refl _

theorem State.discardAnswer_law (b : Block) : s.agt.Law (s.discardAnswer b).agt := by
  unfold State.discardAnswer
  split
  · exact .refl _
  · rename_i d hd
    have hnone : s.agt.Law (s.withAgt { s.agt with discard := none }).agt := .of_same (hdiscard := nofun)
    dsimp only
    split
    · unfold State.discardDone
      split
      · exact hnone.trans (State.answer_law _ _ _ _ _)
      · rename_i hwhy hhand
        refine Agent.Law.trans (b := (s.withAgt { s.agt with discard := none, shadow := .absent }).agt) ?_ (State.answer_law _ _ _ _ _)
        exact .of_session (x := s.agt.hand) nofun fun h => h.hand.2 d hd hwhy
      · exact hnone.trans (State.answer_law _ _ _ _ _)
      · exact hnone
    · refine .of_same (hdiscard := fun e he hw => ⟨d, hd, ?_⟩)
      obtain rfl := Option.some.inj he
      exact hw

theorem State.readsDone_law (h : AgentHand) (r : Req) (got : List (Block × ReadAnswer)) :
    s.agt.Law (s.readsDone h r got).agt := by
  cases r with
  | statsKey | statsPort | status => exact s.answer_law h _ _ _
  | statsDevice clear =>
    have hclear : s.agt.Law (if clear then s.withAgt { s.agt with unsent := 0 } else s).agt := by
      cases clear
      · exact .refl _
      · exact .of_same
    exact hclear.trans (State.answer_law _ _ _ _ _)
  | _ =>
    cases got with
    | nil => exact .refl _
    | cons x xs => exact s.answer_law h _ _ _

theorem State.readAnswer_law (b : Block) (a : ReadAnswer) : s.agt.Law (s.readAnswer b a).agt := by
  have hstage (r : Req) (w : List Block) (got : List (Block × ReadAnswer)) :
      s.agt.Law (s.agt.setStage (.reading r w got)) := .setStage _ (HandStage.not_stages_reading r w got)
  unfold State.readAnswer
  split
  · dsimp only
    split
    · exact hstage _ _ _
    · exact hstage _ _ _
    · exact hstage _ _ _
    · exact s.answer_law _ _ _ _
    · split
      · exact s.readsDone_law _ _ _
      · exact hstage _ _ _
  · exact .refl _

theorem State.laneAnswer_law (a : ReadAnswer) : s.agt.Law (s.laneAnswer a).agt := by
  unfold State.laneAnswer
  split
  · rename_i w l hcommit
    exact .of_same (hcommit := by simp [hcommit])
  · exact .refl _

/-- A report of a commit under way (R195). -/
theorem State.commitReport_law {w : CommitWork} (hcommit : s.agt.commit = some w) (w' : CommitWork) :
    s.agt.Law (s.commitReport w').agt := by
  have hsame : s.agt.Law { s.agt with commit := some w' } := .of_same (hcommit := by simp [hcommit])
  unfold State.commitReport
  split
  · split
    · rename_i q hq
      generalize hu : s.withAgt { s.agt with commit := none, shadow := .absent } = u
      obtain ⟨ca, re, ou, ha, ho, n, -, heq⟩ := u.answerProgress_outputs q .ok 0
      refine ⟨?_, ?_, fun h => ?_⟩
      · rw [heq, ← hu]
        nofun
      · rw [heq, ← hu]
        nofun
      · obtain ⟨-, hsession, -, hcheck, hrestart⟩ := Agent.modeOk_of_commit h.mode hcommit
        exact (u.answerProgress_law q .ok 0 (by rw [← hu]; exact ⟨hsession, hcheck, rfl, hrestart⟩)).1
    · exact hsame
  · exact hsame

theorem State.swapReport_law (r : Option SwapReport) : s.agt.Law (s.swapReport r).agt := by
  unfold State.swapReport
  split
  · rename_i w x hcommit
    refine Agent.Law.trans (b := { s.agt with params := x.params }) .of_same ?_
    exact State.commitReport_law ((s.withAgt { s.agt with params := x.params }).send _) (w := w) hcommit _
  · exact .refl _

theorem State.swapDone_law (b : Block) (ok : Bool) : s.agt.Law (s.swapDone b ok).agt := by
  unfold State.swapDone
  split
  · rename_i w hcommit
    exact s.commitReport_law hcommit _
  · exact .refl _

theorem State.reconcileDone_law (b : Block) : s.agt.Law (s.reconcileDone b).agt := by
  unfold State.reconcileDone
  split
  · rename_i w hcommit
    exact s.commitReport_law hcommit _
  · exact .refl _

/-- A restart goes on to another phase that keeps what it keeps. -/
theorem Agent.Ok.restart {a b : Agent} {w w' : RestartWork} (h : a.Ok) (hw : a.restart = some w) (hw' : b.restart = some w')
    (hmode : b.mode = a.mode) (hprogress : b.progress = a.progress) (hcheck : b.check = none) (hcommit : b.commit = none)
    (hok : a.restartOk w → b.restartOk w') (hhand : b.hand = a.hand ∨ b.hand = none)
    (hdiscard : b.discard = a.discard ∨ b.discard = none) : b.Ok := by
  obtain ⟨hm, hp, -, -, hrestart⟩ := Agent.modeOk_of_restart h.mode hw
  have hne : a.mode ≠ .session := by simp [hm]
  refine ⟨(Agent.modeOk_of_restarting (hmode.trans hm)).mpr ⟨hprogress ▸ hp, hcheck, hcommit, w', hw', hok hrestart⟩,
    Agent.handOk_of (fun x hx => ?_) fun d hd => ?_⟩
  · obtain heq | heq := hhand
    · exact h.not_stages hne (heq ▸ hx)
    · cases heq.symm.trans hx
  · obtain heq | heq := hdiscard
    · exact h.not_abandoning hne (heq ▸ hd)
    · cases heq.symm.trans hd

theorem State.restartEvent_law : s.agt.Law s.restartEvent.agt := by
  unfold State.restartEvent
  split
  · rename_i k hw
    cases k with
    | traffic =>
      refine ⟨id, fun _ => id, fun h => ?_⟩
      obtain ⟨-, -, hcheck, hcommit, -⟩ := Agent.modeOk_of_restart h.mode hw
      exact h.restart hw rfl rfl rfl hcheck hcommit id (.inl rfl) (.inl rfl)
    | full =>
      refine ⟨id, nofun, fun h => ?_⟩
      exact h.restart hw rfl rfl rfl rfl rfl (fun _ => ⟨rfl, rfl⟩) (.inr rfl) (.inr rfl)
  · exact .refl _

theorem State.restartReport_law (b : Block) : s.agt.Law (s.restartReport b).agt := by
  unfold State.restartReport
  split
  · rename_i k w hw
    have hphase {p : RestartPhase} (hp : p ≠ .replying) :
        s.agt.Law { s.agt with restart := some { kind := k, phase := p } } := by
      refine ⟨id, fun _ => id, fun h => ?_⟩
      obtain ⟨-, -, hcheck, hcommit, -⟩ := Agent.modeOk_of_restart h.mode hw
      refine h.restart hw rfl rfl rfl hcheck hcommit (fun hok => ?_) (.inl rfl) (.inl rfl)
      cases k with
      | traffic => exact hok
      | full =>
        cases p with
        | replying => exact absurd rfl hp
        | first w => exact hok
        | second w => exact hok
    split
    · exact hphase nofun
    · exact hphase nofun
  · rename_i k w hw
    split
    · cases k with
      | traffic =>
        refine ⟨nofun, fun _ => id, fun h => ?_⟩
        obtain ⟨-, -, hcheck, hcommit, hsession⟩ := Agent.modeOk_of_restart h.mode hw
        refine ⟨(Agent.modeOk_of_session rfl).mpr ⟨?_, rfl, hcheck, hcommit, rfl⟩, Agent.handOk_of_session rfl⟩
        exact (Option.isSome_map ..).trans hsession
      | full =>
        refine ⟨nofun, fun _ => id, fun h => ?_⟩
        obtain ⟨hm, -, hcheck, hcommit, hsession, hshadow⟩ := Agent.modeOk_of_restart h.mode hw
        have hne : s.agt.mode ≠ .session := by simp [hm]
        exact ⟨(Agent.modeOk_of_noSession rfl).mpr ⟨hsession, hshadow, rfl, hcheck, hcommit, rfl⟩,
          Agent.handOk_of (fun _ => h.not_stages hne) fun _ => h.not_abandoning hne⟩
    · refine ⟨id, fun _ => id, fun h => ?_⟩
      obtain ⟨-, -, hcheck, hcommit, -⟩ := Agent.modeOk_of_restart h.mode hw
      refine h.restart hw rfl rfl rfl hcheck hcommit (fun hok => ?_) (.inl rfl) (.inl rfl)
      cases k with
      | traffic => exact hok
      | full => exact hok
  · exact .refl _

theorem State.requestPlacement_law (n : Nat) (e : RequestEntry) : s.agt.Law (s.requestPlacement n e).agt := by
  have hplace : s.agt.Law (s.agt.place e).1 := by
    unfold Agent.place
    split
    · exact .of_same
    · exact .refl _
  exact hplace

theorem State.freeOutput_law (o : OutFrame) : s.agt.Law (s.freeOutput o).agt := by
  refine .of_same (hhand := fun h hh hs => ?_)
  cases hreply : o.reply <;> simp [State.freeOutput, State.withAgt, hreply] at hh
  exact ⟨h, hh, hs⟩

theorem State.afterOutput_law (o : OutFrame) (fire : Bool) : s.agt.Law (s.afterOutput o fire).agt := by
  have hchoice (u : State) : u.agt.Law u.outputChoice.agt := u.outputChoice_outputs.law
  unfold State.afterOutput
  split
  · exact s.restartEvent_law.trans (hchoice _)
  · exact hchoice s

theorem State.agentReserveAnswer_law (r : Option FrameRef) : s.agt.Law (s.agentReserveAnswer r).agt := by
  unfold State.agentReserveAnswer
  split
  · dsimp only
    split
    · exact (Agent.Law.of_same (b := s.countUnsent.agt)).trans
        ((State.freeOutput_law _ _).trans (State.afterOutput_law _ _ _))
    · exact .of_same
  · exact .refl _

theorem State.agentEnqueueAnswer_law (ref : FrameRef) (r : EnqResult) : s.agt.Law (s.agentEnqueueAnswer ref r).agt := by
  unfold State.agentEnqueueAnswer
  split
  · dsimp only
    have hreleased (u : State) (o : OutFrame) : u.agt.Law (u.frameReleased o ref).agt := by
      unfold State.frameReleased
      split
      · have hframe := (State.takeReleases_frame u ref).1
        rw [hframe]
        exact .refl _
      · exact .refl _
    split
    · exact Agent.Law.trans (b := s.agt) (.refl _) ((State.freeOutput_law (s.send _) _).trans (State.afterOutput_law _ _ _))
    · exact (hreleased (s.send [.release ref]) _).trans ((Agent.Law.of_same (b := (State.countUnsent _).agt)).trans
        ((State.freeOutput_law _ _).trans (State.afterOutput_law _ _ _)))
  · exact .refl _

theorem State.handoffAnswer_law (r : HandoffResult) : s.agt.Law (s.handoffAnswer r).agt := by
  have hreleased (o : OutFrame) (ref : FrameRef) : s.agt.Law (s.frameReleased o ref).agt := by
    unfold State.frameReleased
    split
    · rw [(State.takeReleases_frame s ref).1]
      exact .refl _
    · exact .refl _
  have hafter (u : State) (o : OutFrame) (fire : Bool) : u.agt.Law ((u.freeOutput o).afterOutput o fire).agt :=
    (State.freeOutput_law u o).trans (State.afterOutput_law _ o fire)
  unfold State.handoffAnswer
  split
  · dsimp only
    split
    · exact Agent.Law.trans (b := s.agt) (.refl _) (hafter (s.send _) _ _)
    · exact (hreleased _ _).trans (hafter _ _ _)
    · exact hafter s _ _
    · exact hafter s _ _
  · exact .refl _

end

theorem Agent.handOut_law (a : Agent) : a.Law a.handOut := by
  obtain heq | ⟨e, es, -, -, -, heq⟩ := a.handOut_cases <;> rw [heq]
  · exact .refl a
  · exact .of_same

theorem execPacingExpiry_law {s t : State} (h : execPacingExpiry s = .next t) : s.agt.Law t.agt := by
  unfold execPacingExpiry at h
  split at h <;> rw [next_eq_next] at h <;> subst h
  · refine Agent.Law.trans ?_ (State.outputChoice_outputs _).law
    exact Agent.Law.trans (b := { s.agt with pacing := s.agt.pacing + s.agt.params.noticeInterval }) .of_same
      (Agent.handOut_law _)
  · exact .refl _

theorem execSessionTimerExpiry_law {s t : State} (h : execSessionTimerExpiry s = .next t) : s.agt.Law t.agt := by
  unfold execSessionTimerExpiry at h
  split at h
  · rename_i hdue
    have hmode : s.agt.mode = .session := by
      unfold Agent.expiryDue at hdue
      split at hdue
      · assumption
      · cases hdue
    split at h <;> rw [next_eq_next] at h <;> subst h
    · exact .of_same
    · rename_i hhand
      have hnone : s.agt.hand = none := by simpa using hhand
      refine Agent.Law.trans (b := s.agt.raise .sessionEnd 0) .of_same ?_
      exact State.endSession_law (s.withAgt (s.agt.raise .sessionEnd 0)) nofun (fun x hx => nomatch hnone.symm.trans hx) hmode
  · rw [next_eq_next] at h
    exact h ▸ .refl _

end Sys2Proof.Machine
end

section
set_option Elab.async false
/-! The law of the agent's states over requests and checks, and over every command (R156, R160, R179, R190 to R193). -/

namespace Sys2Proof.Machine

/-- What a command makes of the agent's state: COMMITTING is entered with a CHECKED shadow alone, a shadow becomes CHECKED only
as `C` says, and the agent's law is kept. -/
structure Agent.Step (C : Prop) (a b : Agent) : Prop where
  committing : b.mode = .committing → a.mode = .committing ∨ ∃ rem, b.shadow = .checked rem
  checked : ∀ rem, b.shadow = .checked rem → a.shadow = .checked rem ∨ C
  ok : a.Ok → b.Ok

section
variable {C : Prop} {a b c : Agent}

theorem Agent.Law.step (h : a.Law b) : a.Step C b := ⟨fun hb => .inl (h.committing hb), fun rem hb => .inl (h.checked rem hb), h.ok⟩

theorem Agent.Law.then_step (h : a.Law b) (h' : b.Step C c) : a.Step C c :=
  ⟨fun hc => (h'.committing hc).imp h.committing id, fun rem hc => (h'.checked rem hc).imp (h.checked rem) id, h'.ok ∘ h.ok⟩

end

/-! ## Requests -/

section
variable {s : State} {C : Prop}

/-- The holder's requests are served in SESSION (R160). -/
theorem Agent.mode_of_holder {a : Agent} {token : Word32} (h : a.refusal token .holder = none) : a.mode = .session := by
  cases hm : a.mode <;> simp [Agent.refusal, hm] at h ⊢

theorem State.serveOpen_law (h : AgentHand) : s.agt.Law (s.serveOpen h).agt := by
  unfold State.serveOpen
  split
  · rename_i hnone
    refine Agent.Law.trans ?_ (State.answer_law (s.withAgt ({ s.agt with
      mode := .session, session := some { token := reqToken h.payload, timer := none } }.startTimer s.clock.millis)) _ _ _ _)
    refine ⟨nofun, fun _ => id, fun hok => ⟨?_, Agent.handOk_of_session rfl⟩⟩
    obtain ⟨-, -, hprogress, hcheck, hcommit, hrestart⟩ := (Agent.modeOk_of_noSession hnone).mp hok.mode
    exact (Agent.modeOk_of_session rfl).mpr ⟨rfl, hprogress, hcheck, hcommit, hrestart⟩
  · exact s.answer_law _ _ _ _

theorem State.serveStaging_law (h : AgentHand) (r : Req) (hmode : s.agt.mode = .session) :
    s.agt.Law (s.serveStaging h r).agt := by
  have hstage (g : HandStage) : s.agt.Law (s.agt.setStage g) :=
    .of_session (sh := s.agt.shadow) (d := s.agt.discard) (fun _ => id) fun _ => hmode
  unfold State.serveStaging
  split
  · exact s.answer_law _ _ _ _
  · split
    · exact hstage _
    · exact hstage _

theorem State.serveAbandon_law (h : AgentHand) (hmode : s.agt.mode = .session) : s.agt.Law (s.serveAbandon h).agt := by
  unfold State.serveAbandon
  split
  · exact s.answer_law _ _ _ _
  · exact .of_session (sh := s.agt.shadow) (fun _ => id) fun _ => hmode

theorem State.serveClose_law (hmode : s.agt.mode = .session) : s.agt.Law s.serveClose.agt := by
  refine (Agent.Law.setStage s.agt HandStage.not_stages_discarding).trans
    (State.endSession_law (s.withAgt (s.agt.setStage .discarding)) (by simp) (fun x hx => ?_) hmode)
  obtain ⟨y, -, rfl⟩ := Option.map_eq_some_iff.mp hx
  exact HandStage.not_stages_discarding

/-- A check begins in SESSION with a DIRTY shadow (R188, R192). -/
theorem State.beginCheck_law (h : AgentHand) (k : ProgressKind) (hmode : s.agt.mode = .session)
    (hdiscard : s.agt.discard = none) (hshadow : ∃ rem, s.agt.shadow = .dirty rem) :
    s.agt.Law (s.beginCheck h k).agt := by
  refine ⟨nofun, fun _ => id, fun hok => ⟨?_, Agent.handOk_of (fun _ hx => nomatch hx) fun d hd => nomatch hdiscard.symm.trans hd⟩⟩
  obtain ⟨hsession, -, -, hcommit, hrestart⟩ := (Agent.modeOk_of_session hmode).mp hok.mode
  exact (Agent.modeOk_of_checking rfl).mpr ⟨(Option.isSome_map ..).trans hsession, rfl, rfl, hcommit, hrestart, hshadow⟩

theorem State.serveCheck_law (h : AgentHand) (hmode : s.agt.mode = .session) (hdiscard : s.agt.discard = none) :
    s.agt.Law (s.serveCheck h).agt := by
  unfold State.serveCheck
  split
  · exact s.answer_law _ _ _ _
  · exact s.answer_law _ _ _ _
  · rename_i rem hdirty
    exact s.beginCheck_law h _ hmode hdiscard ⟨rem, hdirty⟩

theorem State.serveCommit_step (h : AgentHand) (d : Word32) (hmode : s.agt.mode = .session)
    (hdiscard : s.agt.discard = none) : s.agt.Step C (s.serveCommit h d).agt := by
  unfold State.serveCommit
  split
  · exact (s.answer_law _ _ _ _).step
  · rename_i rem hchecked
    split
    · refine ⟨fun _ => .inr ⟨rem, hchecked⟩, fun _ => .inl, fun hok => ?_⟩
      obtain ⟨hsession, -, hcheck, -, hrestart⟩ := (Agent.modeOk_of_session hmode).mp hok.mode
      exact State.beginCommit_ok (s.withAgt { s.agt with progress := some (h.progress .commit) })
        ⟨hsession, rfl, hcheck, hrestart⟩ ⟨rem, hchecked⟩ fun d hd => nomatch hdiscard.symm.trans hd
    · exact (s.answer_law _ _ _ _).step
  · rename_i rem hdirty
    split
    · exact (s.beginCheck_law h _ hmode hdiscard ⟨rem, hdirty⟩).step
    · exact (s.answer_law _ _ _ _).step

theorem State.serveRestart_law (h : AgentHand) (k : RestartKind) (hmode : s.agt.mode = .session)
    (hdiscard : s.agt.discard = none) : s.agt.Law (s.serveRestart h k).agt := by
  refine Agent.Law.trans (b := (s.withAgt { (s.agt.setStage .replying).stopTimer with
    mode := .restarting, progress := some (h.progress .restart), restart := some { kind := k, phase := .replying } }).agt)
    ?_ (State.reply_outputs _ _ _ _ _ _ _ _ _).law
  refine ⟨nofun, fun _ => id, fun hok => ⟨?_, Agent.handOk_of (fun x hx => ?_) fun d hd => nomatch hdiscard.symm.trans hd⟩⟩
  · obtain ⟨hsession, -, hcheck, hcommit, -⟩ := (Agent.modeOk_of_session hmode).mp hok.mode
    refine (Agent.modeOk_of_restarting rfl).mpr ⟨rfl, hcheck, hcommit, _, rfl, ?_⟩
    cases k with
    | traffic => exact (Option.isSome_map ..).trans hsession
    | full => exact trivial
  · obtain ⟨y, -, rfl⟩ := Option.map_eq_some_iff.mp hx
    exact HandStage.not_stages_replying

/-- A served request keeps the law; COMMIT alone enters COMMITTING, with a CHECKED shadow (R160, R192). -/
theorem State.serve_step (h : AgentHand) (r : Req) {token : Word32} (hserved : s.agt.refusal token r.access = none)
    (hdiscard : s.agt.discard = none) : s.agt.Step C (s.serve h r).agt := by
  have hask (bs : List Block) (ms : List Msg) : s.agt.Step C (s.askReads r bs ms).agt :=
    (Agent.Law.setStage s.agt (HandStage.not_stages_reading r bs [])).step
  cases r with
  | openSession => exact (State.serveOpen_law h).step
  | closeSession => exact (State.serveClose_law (Agent.mode_of_holder hserved)).step
  | abandon => exact (State.serveAbandon_law h (Agent.mode_of_holder hserved)).step
  | checkShadow => exact (State.serveCheck_law h (Agent.mode_of_holder hserved) hdiscard).step
  | commit d => exact State.serveCommit_step h d (Agent.mode_of_holder hserved) hdiscard
  | restart k => exact (State.serveRestart_law h k (Agent.mode_of_holder hserved) hdiscard).step
  | putDirectory | putPolicers | putPools | putQueues | putDevice | dropKeys | clearBank =>
    exact (State.serveStaging_law h _ (Agent.mode_of_holder hserved)).step
  | _ => exact hask _ _

theorem State.handleRequest_step (h : AgentHand)
    (hdiscard : s.agt.discard = none) : s.agt.Step C (s.handleRequest h).agt := by
  unfold State.handleRequest
  split
  · exact (s.resend_outputs h _).law.step
  · exact (Agent.Law.of_same (b := { s.agt with hand := none }) (hhand := fun _ hx => nomatch hx)).step
  · split
    · exact (s.answer_law _ _ _ _).step
    · split
      · exact (s.answer_law _ _ _ _).step
      · rename_i hserved
        exact State.serve_step h _ hserved hdiscard

theorem Agent.begin_law (a : Agent) (e : RequestEntry) (rest : List RequestEntry)
    (now : Nat) : a.Law (a.begin e rest now) := by
  rw [Agent.begin_eq]
  refine .of_same (hsession := ?_) (hhand := fun x hx hs => ?_)
  · exact Option.isSome_map ..
  · obtain rfl := Option.some.inj hx
    exact absurd hs HandStage.not_stages_replying

theorem State.takeRequest_step {row : RequestRow} {t : State} (h : s.takeRequest row = .next t) : s.agt.Step C t.agt := by
  obtain rfl | ⟨e, rest, -, -, htakes, rfl⟩ := State.takeRequest_cases h
  · exact (Agent.Law.refl _).step
  · have hdiscard : s.agt.discard = none := by simp only [Agent.takesRequest] at htakes; simp_all
    refine (s.agt.begin_law e rest s.clock.millis).then_step
      (State.handleRequest_step (s := s.withAgt (s.agt.begin e rest s.clock.millis)) _ ?_)
    rw [State.withAgt_agt, Agent.begin_eq]
    exact hdiscard

end

/-! ## The end of a check -/

/-- The answer `a` completes the check, and the check finds no fault (R190). -/
def State.Completes (s : State) (r : CheckRead) (a : ReadAnswer) : Prop :=
  ∃ w, s.agt.check.map (fun x => x.entered r a) = some w ∧ w.waiting = [] ∧ w.fault s.node = none

theorem State.checkDone_step {s : State} {w w' : CheckWork} {C : Prop} (hcheck : s.agt.check = some w')
    (hhand : s.agt.hand = none) (hC : w.fault s.node = none → C) : s.agt.Step C (s.checkDone w).agt := by
  unfold State.checkDone
  dsimp only
  split
  · rename_i q f i hprogress hfault
    have hanswered (hok : s.agt.Ok) := State.answerProgress_law (s.withAgt { s.agt with check := none }) q .invalid (detailOf f i) <| by
      obtain ⟨-, hsession, -, hcommit, hrestart⟩ := Agent.modeOk_of_check hok.mode hcheck
      exact ⟨hsession, rfl, hcommit, hrestart⟩
    obtain ⟨ca, re, ou, ha, ho, n, -, heq⟩ :=
      (s.withAgt { s.agt with check := none }).answerProgress_outputs q .invalid (detailOf f i)
    refine ⟨?_, ?_, fun hok => (hanswered hok).1⟩ <;> rw [heq]
    · nofun
    · exact fun _ => .inl
  · rename_i q hprogress hfault
    generalize hu : (s.withAgt { s.agt with check := none }).withAgt
      { (s.withAgt { s.agt with check := none }).agt with
        shadow := .checked (s.withAgt { s.agt with check := none }).agt.shadow.remainder } = u
    have hC : C := hC hfault
    have huagt : u.agt = { s.agt with check := none, shadow := .checked s.agt.shadow.remainder } := by rw [← hu]; rfl
    split
    · refine ⟨fun _ => .inr ⟨_, congrArg Agent.shadow huagt⟩, fun _ _ => .inr hC, fun hok => ?_⟩
      obtain ⟨hmode, hsession, hp, hcommit, hrestart⟩ := Agent.modeOk_of_check hok.mode hcheck
      refine u.beginCommit_ok ?_ ⟨_, congrArg Agent.shadow huagt⟩ fun d hd => ?_
      · rw [huagt]
        exact ⟨hsession, hp, rfl, hrestart⟩
      · rw [huagt] at hd
        exact hok.not_abandoning (by simp [hmode]) hd
    · obtain ⟨ca, re, ou, ha, ho, n, -, heq⟩ := u.answerProgress_outputs q .ok 0
      refine ⟨?_, fun _ _ => .inr hC, fun hok => (u.answerProgress_law q .ok 0 ?_).1⟩
      · rw [heq]
        nofun
      · obtain ⟨-, hsession, -, hcommit, hrestart⟩ := Agent.modeOk_of_check hok.mode hcheck
        rw [huagt]
        exact ⟨hsession, rfl, hcommit, hrestart⟩
  · rename_i hprogress
    refine ⟨.inl, fun _ => .inl, fun hok => ?_⟩
    obtain ⟨-, -, hp, -⟩ := Agent.modeOk_of_check hok.mode hcheck
    simp_all

theorem State.checkAnswer_step (s : State) (r : CheckRead) (a : ReadAnswer) (hhand : s.agt.hand = none) :
    s.agt.Step (s.Completes r a) (s.checkAnswer r a).agt := by
  cases hw : s.agt.check with
  | none =>
    rw [State.checkAnswer_of_none hw]
    exact (Agent.Law.refl _).step
  | some w =>
    have hentered : s.agt.Law { s.agt with check := some (w.entered r a) } := .of_same (hcheck := by simp [hw])
    rw [State.checkAnswer_of_check hw]
    dsimp only
    split
    · rename_i hlast
      refine hentered.then_step (State.checkDone_step
        (s := (s.withAgt { s.agt with check := some (w.entered r a) }).send (w.nextReads r a)) rfl hhand fun hfault => ?_)
      exact ⟨w.entered r a, by simp [hw], List.isEmpty_iff.mp hlast, hfault⟩
    · exact hentered.step

/-! ## Every command -/

/-- The answer `a` is the one that an event of the agent's state takes: of the deferred ones first (R157, log 6). -/
def State.Taken (s : State) {α : Type} (sel : Msg → Option α) (a : α) : Prop :=
  ∃ rest, takeFirst sel s.agt.deferred = some (a, rest) ∨
    takeFirst sel s.agt.deferred = none ∧ takeFirst sel s.net = some (a, rest)

/-- An event on the agent's state: deferred, or taken with no request in hand. -/
theorem State.step_of_agentEvent {α : Type} {s t : State} {sel : Msg → Option α} {k : α → State → State} {C : Prop}
    (hk : ∀ a n d, s.Taken sel a → s.agt.hand = none →
      Agent.Step C s.agt (k a { s with net := n, agt := { s.agt with deferred := d } }).agt)
    (h : s.agentEvent sel k = .next t) : s.agt.Step C t.agt := by
  unfold State.agentEvent at h
  split at h
  · split at h <;> rw [next_eq_next] at h <;> subst h
    · exact (Agent.Law.refl _).step
    · exact (Agent.Law.of_same).step
  · rename_i hhand
    have hnone : s.agt.hand = none := by simpa using hhand
    split at h
    · rename_i a rest htake
      rw [next_eq_next] at h
      subst h
      exact hk a s.net rest ⟨rest, .inl htake⟩ hnone
    · rename_i hdeferred
      obtain ⟨-, rfl⟩ | ⟨a, rest, htake, rfl⟩ := State.onMsg_cases h
      · exact (Agent.Law.refl _).step
      · exact hk a rest s.agt.deferred ⟨rest, .inr ⟨hdeferred, htake⟩⟩ hnone

/-- An event on the agent's state whose operation keeps the law of the states. -/
theorem State.step_of_agentEvent_law {α : Type} {s t : State} {sel : Msg → Option α} {k : α → State → State} {C : Prop}
    (hk : ∀ a (u : State), u.agt.Law (k a u).agt) (h : s.agentEvent sel k = .next t) : s.agt.Step C t.agt := by
  refine State.step_of_agentEvent (fun a n d _ _ => ?_) h
  exact (Agent.Law.trans (b := { s.agt with deferred := d }) .of_same
    (hk a { s with net := n, agt := { s.agt with deferred := d } })).step

theorem State.step_of_onMsg {α : Type} {s t : State} {sel : Msg → Option α} {k : α → State → State} {C : Prop}
    (hk : ∀ a (u : State), u.agt.Law (k a u).agt) (h : s.onMsg sel k = .next t) : s.agt.Step C t.agt := by
  obtain ⟨-, rfl⟩ | ⟨a, rest, -, rfl⟩ := State.onMsg_cases h
  · exact (Agent.Law.refl _).step
  · exact (hk a { s with net := rest }).step

/-- The answer that completes a check with no fault (R190). -/
def State.ChecksOk (s : State) (c : Instr) : Prop :=
  ∃ r a, c = .checkReadAnswer r ∧ s.Taken (selCheckAns r) a ∧ s.Completes r a

theorem exec_request_step (row : RequestRow) {s t : State} {C : Prop} (h : exec row.instr s = .next t) : s.agt.Step C t.agt :=
  State.takeRequest_step (exec_eq_takeRequest row s ▸ h)

/-- What the agent's commands make of its state. -/
theorem exec_agent_step {c : Instr} {s t : State} (hc : c.home = some .agent) (h : exec c s = .next t) :
    s.agt.Step (s.ChecksOk c) t.agt := by
  cases c with
  | requestPlacement =>
    have h : execRequestPlacement s = .next t := h
    exact State.step_of_onMsg (fun _ u => u.requestPlacement_law _ _) h
  | unknownKindRequest => exact exec_request_step .unknownKind h
  | openSession => exact exec_request_step .openSession h
  | closeSession => exact exec_request_step .closeSession h
  | putDirectory => exact exec_request_step .putDirectory h
  | putPolicers => exact exec_request_step .putPolicers h
  | putPools => exact exec_request_step .putPools h
  | putQueues => exact exec_request_step .putQueues h
  | putDevice => exact exec_request_step .putDevice h
  | dropKeys => exact exec_request_step .dropKeys h
  | clearBank => exact exec_request_step .clearBank h
  | abandon => exact exec_request_step .abandon h
  | checkShadow => exact exec_request_step .checkShadow h
  | commit => exact exec_request_step .commit h
  | readDirectory => exact exec_request_step .readDirectory h
  | readPolicers => exact exec_request_step .readPolicers h
  | readPools => exact exec_request_step .readPools h
  | readQueues => exact exec_request_step .readQueues h
  | readDevice => exact exec_request_step .readDevice h
  | readNext => exact exec_request_step .readNext h
  | readStatsKey => exact exec_request_step .readStatsKey h
  | readStatsPort => exact exec_request_step .readStatsPort h
  | readStatsDevice => exact exec_request_step .readStatsDevice h
  | status => exact exec_request_step .status h
  | restartTraffic => exact exec_request_step .restartTraffic h
  | restartFull => exact exec_request_step .restartFull h
  | shadowCreateAnswer b =>
    have h : execShadowCreateAnswer b s = .next t := h
    exact State.step_of_onMsg (fun _ u => u.createAnswer_law b) h
  | shadowWriteAnswer b =>
    have h : execShadowWriteAnswer b s = .next t := h
    exact State.step_of_onMsg (fun r u => u.writeAnswer_law r) h
  | shadowDiscardAnswer b =>
    have h : execShadowDiscardAnswer b s = .next t := h
    exact State.step_of_onMsg (fun _ u => u.discardAnswer_law b) h
  | ownerReadAnswer b =>
    have h : execOwnerReadAnswer b s = .next t := h
    exact State.step_of_onMsg (fun a u => u.readAnswer_law b a) h
  | checkReadAnswer r =>
    have h : execCheckReadAnswer r s = .next t := h
    refine State.step_of_agentEvent (fun a n d htaken hhand => ?_) h
    have hstep := State.checkAnswer_step { s with net := n, agt := { s.agt with deferred := d } } r a hhand
    exact Agent.Law.then_step .of_same
      ⟨hstep.committing, fun rem hrem => (hstep.checked rem hrem).imp id fun hdone => ⟨r, a, rfl, htaken, hdone⟩, hstep.ok⟩
  | preferredLaneAnswer =>
    have h : execPreferredLaneAnswer s = .next t := h
    exact State.step_of_agentEvent_law (fun a u => u.laneAnswer_law a) h
  | swapReport =>
    have h : execSwapReport s = .next t := h
    exact State.step_of_agentEvent_law (fun r u => u.swapReport_law r) h
  | swapDone b =>
    have h : execSwapDone b s = .next t := h
    exact State.step_of_agentEvent_law (fun ok u => u.swapDone_law b ok) h
  | reconciliationDone b =>
    have h : execReconciliationDone b s = .next t := h
    exact State.step_of_agentEvent_law (fun _ u => u.reconcileDone_law b) h
  | watchReturned =>
    have h : execWatchReturned s = .next t := h
    exact State.step_of_agentEvent_law (fun _ u => u.restartEvent_law) h
  | restartDone b =>
    have h : execRestartDone b s = .next t := h
    exact State.step_of_agentEvent_law (fun _ u => u.restartReport_law b) h
  | agentReserveGrantAnswer =>
    have h : s.onMsg (selReserveAns .agent) (fun q u => u.agentReserveAnswer q.2) = .next t := h
    exact State.step_of_onMsg (fun (_, r) u => u.agentReserveAnswer_law r) h
  | agentEnqueueAnswer =>
    have h : s.onMsg selOutputAns (fun q u => u.agentEnqueueAnswer q.1 q.2) = .next t := h
    exact State.step_of_onMsg (fun (ref, r) u => u.agentEnqueueAnswer_law ref r) h
  | handoffAnswer =>
    have h : s.onMsg selHandoffAns (fun r u => u.handoffAnswer r) = .next t := h
    exact State.step_of_onMsg (fun r u => u.handoffAnswer_law r) h
  | sessionTimerExpiry => exact (execSessionTimerExpiry_law h).step
  | noticeRaise kind detail =>
    have h : execNoticeRaise kind detail s = .next t := h
    exact State.step_of_onMsg (fun _ u => .of_same) h
  | pacingExpiry => exact (execPacingExpiry_law h).step
  | timeCountTick =>
    rw [exec_timeCountTick h]
    exact (Agent.Law.of_same).step
  | _ => cases hc

/-- What a command makes of the agent's state. -/
theorem exec_agt_step {c : Instr} {b : Block} {s t : State} (hc : c.home = some b) (h : exec c s = .next t) :
    s.agt.Step (s.ChecksOk c) t.agt := by
  by_cases hb : c.home = some .agent
  · exact exec_agent_step hb h
  · obtain ⟨q, hq⟩ : ∃ q, t.agt = { s.agt with queue := q } := by
      obtain ⟨-, -, -, -, -, -, -, -, hagt, hclassify, -⟩ := blocksChangeAtTheirOwnEvents c s t (by simp [hc]) h
      by_cases hp : ∃ p, c = .classify p
      · obtain ⟨p, rfl⟩ := hp
        obtain ⟨-, -, -, hagent⟩ := hclassify p rfl
        exact ⟨_, hagent⟩
      · exact ⟨s.agt.queue, hagt hb fun p hc => hp ⟨p, hc⟩⟩
    rw [hq]
    exact (Agent.Law.of_same).step

theorem Agent.powerOn_ok (now : Nat) : (Agent.powerOn now).Ok :=
  ⟨(Agent.modeOk_of_noSession rfl).mpr ⟨rfl, rfl, rfl, rfl, rfl, rfl⟩,
    Agent.handOk_of (fun _ hx => nomatch hx) fun _ hd => nomatch hd⟩

theorem exec_agentOk {c : Instr} {s t : State} (hs : s.agt.Ok) (h : exec c s = .next t) : t.agt.Ok :=
  exec_keeps (I := fun u => u.agt.Ok) h (fun _ _ _ _ => Agent.powerOn_ok 0) fun _ hc => (exec_agt_step hc h).ok hs

/-- Settles O14, by the law of each operation of the agent. -/
theorem stepKeepsSessionLaw : Obligations.StepKeepsSessionLaw := fun _ _ =>
  step_keeps (I := fun u => u.agt.Ok) (fun _ _ h => h) fun _ _ _ => exec_agentOk

end Sys2Proof.Machine
end

section
set_option Elab.async false
/-! The active configuration (R28, R190 to R193), the order of messages and entries (R40, R50, R120), and the part after reset. -/

namespace Sys2Proof.Machine

/-! ## The active configuration -/

theorem mem_of_takeFirst_swap {b : Block} {ms rest : List Msg} (h : takeFirst (selSwap b) ms = some ((), rest)) :
    .swap b ∈ ms := by
  obtain ⟨m, hm, hsel⟩ := mem_of_takeFirst h
  cases m <;> simp only [selSwap, Option.ite_none_right_eq_some, reduceCtorEq] at hsel
  exact hsel.1 ▸ hm

/-- The tables right after a reset keep the law of R191. -/
theorem State.ActiveOk.of_default {s : State} (hbank : s.cls.bank = []) (hquotas : s.adm.quotas = Admission.powerOn.quotas)
    (hlimits : ∀ p, (s.egr.ports.get p).limits = ⟨40, 40, 40, 40⟩) : s.ActiveOk where
  keys := by simp [hbank]
  quotas := by rw [hquotas]; decide
  limits p := by rw [hlimits p]; decide

/-- A swap makes a shadow active that has passed the check; nothing else changes the tables but a reset (R191). -/
theorem exec_activeOk {c : Instr} {s t : State} (hs : s.ActiveOk) (hchecked : s.SwapsChecked) (h : exec c s = .next t) :
    t.ActiveOk := by
  refine exec_keeps h (fun _ _ _ _ => .of_default rfl rfl fun p => by cases p <;> rfl) fun b hc => ?_
  obtain ⟨⟨hnode, -⟩, -⟩ := blocksChangeAtTheirOwnEvents c s t (by simp [hc]) h
  refine ⟨?_, ?_, fun p => ?_⟩
  · rw [hnode]
    obtain hkeeps | hset := exec_cls_cases hc h
    · exact hkeeps.bank ▸ hs.keys
    · cases hset with
      | swapped rest sh htake hsh => exact hchecked.keys (mem_of_takeFirst_swap htake) sh hsh
      | restarted rest hrest => exact fun r hr => absurd hr List.not_mem_nil
  · obtain hkeeps | hset | ⟨-, hrefill⟩ := exec_adm_cases hc h
    · exact hkeeps.quotas ▸ hs.quotas
    · cases hset with
      | swapped rest sh htake hsh => exact hchecked.quotas (mem_of_takeFirst_swap htake) sh hsh
      | restarted rest hrest => show Admission.powerOn.quotas.toList.sum ≤ 2032; decide
    · rw [hrefill]
      exact hs.quotas
  · rw [← Egress.limits_get]
    obtain hkeeps | hset := exec_egr_cases hc h
    · rw [hkeeps.limits, Egress.limits_get]
      exact hs.limits p
    · cases hset with
      | swapped rest v htake hv =>
        have hlimits := hchecked.limits (mem_of_takeFirst_swap htake) v hv p
        cases p <;> exact hlimits
      | restarted rest hrest => cases p <;> exact Nat.le_refl 160

/-- The tables that a command leaves in force (R28, R97, R102, R149). -/
theorem exec_config_cases {c : Instr} {b : Block} {s t : State} (hc : c.home = some b) (h : exec c s = .next t) :
    (classifierChange c = false → t.cls.bank = s.cls.bank ∧ t.cls.params = s.cls.params) ∧
      (t.cls.gen = s.cls.gen ∨ (c = .classifierSwap ∧ t.cls.gen = s.cls.gen + 1) ∨
        (c = .classifierFullRestart ∧ t.cls.gen = 0)) ∧
      (admissionChange c = false → t.adm.policerConfig = s.adm.policerConfig ∧ t.adm.quotas = s.adm.quotas) ∧
      (limitChange c = false → t.egr.limits = s.egr.limits) := by
  refine ⟨fun hchange => ?_, ?_, fun hchange => ?_, fun hchange => ?_⟩
  · obtain hkeeps | hset := exec_cls_cases hc h
    · exact ⟨hkeeps.bank, hkeeps.params⟩
    · cases hset <;> cases hchange
  · obtain hkeeps | hset := exec_cls_cases hc h
    · exact .inl hkeeps.gen
    · cases hset with
      | swapped rest sh htake hsh => exact .inr (.inl ⟨rfl, rfl⟩)
      | restarted rest hrest => exact .inr (.inr ⟨rfl, rfl⟩)
  · obtain hkeeps | hset | ⟨-, hrefill⟩ := exec_adm_cases hc h
    · exact ⟨hkeeps.config, hkeeps.quotas⟩
    · cases hset <;> cases hchange
    · rw [hrefill]
      refine ⟨?_, rfl⟩
      simp only [Admission.policerConfig, Vector.map_map]
      congr 1
      funext p
      exact Policer.refilled_cfg p
  · obtain hkeeps | hset := exec_egr_cases hc h
    · exact hkeeps.limits
    · cases hset <;> cases hchange

/-- Each command but a power-on reset is an event of one block. -/
theorem instr_home_cases (c : Instr) : (∃ x l0 l1 lt, c = .powerOnReset x l0 l1 lt) ∨ ∃ b, c.home = some b :=
  exec_by_home (P := fun c => (∃ x l0 l1 lt, c = .powerOnReset x l0 l1 lt) ∨ ∃ b, c.home = some b)
    (fun x l0 l1 lt => .inl ⟨x, l0, l1, lt, rfl⟩) (fun _ b hc => .inr ⟨b, hc⟩) c

/-- Settles O4. -/
theorem configurationChangesAtSwapsAndResets : Obligations.ConfigurationChangesAtSwapsAndResets := by
  refine ⟨fun s t hs hchecked h => ?_, fun c s t h => ?_, fun c s t h => ?_⟩
  · unfold step at h
    split at h
    · exact next_eq_next.mp h ▸ hs
    · rename_i _ cs _
      exact exec_activeOk (s := s.withPending cs) ⟨hs.keys, hs.quotas, hs.limits⟩
        ⟨hchecked.keys, hchecked.quotas, hchecked.limits⟩ h
  · obtain ⟨x, l0, l1, lt, rfl⟩ | ⟨b, hc⟩ := instr_home_cases c
    · rw [exec_powerOnReset h]
      exact ⟨fun _ hb => absurd hb List.not_mem_nil, fun hm => (nomatch hm), fun _ hm => nomatch hm⟩
    have hstep := exec_agt_step hc h
    refine ⟨fun b hb => ?_, hstep.committing, fun rem hrem => (hstep.checked rem hrem).imp id ?_⟩
    · refine ((exec_sent_cases hc h).net _ hb).imp id fun hnew => ?_
      obtain hnew | ⟨-, sh, gen, params, -, hm⟩ := hnew
      · exact hnew
      · cases hm
    · rintro ⟨r, a, rfl, ⟨rest, htake⟩, w, hw, hlast, hfault⟩
      exact ⟨r, a, rest, w, rfl, htake, hw, hlast, hfault⟩
  · obtain ⟨x, l0, l1, lt, rfl⟩ | ⟨b, hc⟩ := instr_home_cases c
    · rw [exec_powerOnReset h]
      exact ⟨fun hx => (nomatch hx), .inr (.inr ⟨.inr ⟨x, l0, l1, lt, rfl⟩, rfl⟩),
        fun hx => (nomatch hx), fun hx => nomatch hx⟩
    · obtain ⟨hcls, hgen, hrest⟩ := exec_config_cases hc h
      exact ⟨hcls, hgen.imp id (Or.imp id fun ⟨hrestart, hzero⟩ => ⟨.inl hrestart, hzero⟩), hrest⟩

/-! ## The order of messages and entries -/

/-- The first message that the event picks is taken, wherever it stands. -/
theorem takeFirst_of_split {α : Type} {sel : Msg → Option α} {a : α} {m : Msg} {post : List Msg} (hm : sel m = some a) :
    ∀ {pre : List Msg}, (∀ x ∈ pre, sel x = none) → takeFirst sel (pre ++ m :: post) = some (a, pre ++ post)
  | [], _ => by simp only [List.nil_append, takeFirst, hm]
  | x :: pre, hpre => by
    obtain ⟨hx, hpre⟩ := List.forall_mem_cons.mp hpre
    simp only [List.cons_append, takeFirst, hx, takeFirst_of_split hm hpre]

/-- Settles O5. -/
theorem messagesAndEntriesKeepTheirOrder : Obligations.MessagesAndEntriesKeepTheirOrder := by
  refine ⟨fun α sel a ms rest => ⟨takeFirst_split, ?_⟩, fun α sel k s => ⟨fun hnone => ?_, fun a rest htake => ?_⟩,
    fun s p e => rfl, fun s e => rfl⟩
  · rintro ⟨pre, m, post, rfl, hpre, hm, rfl⟩
    exact takeFirst_of_split hm hpre
  · simp only [State.onMsg, takeFirst_eq_none.mpr hnone]
  · exact State.onMsg_of_takeFirst k htake

/-! ## The part after reset -/

/-- The part after a power-on reset, whatever the straps and the link indications are, keeps every law. -/
theorem State.powerOn_lawful (straps : Byte) (links : PerPort Link) : (State.powerOn straps links).Lawful where
  queues := ⟨Nat.zero_le _, Nat.zero_le _, Nat.zero_le _⟩
  banks := ⟨rfl, fun _ hx => nomatch hx⟩
  credits := Admission.powerOn_creditsOk _ rfl
  memory := Admission.memoryOk_of_empty rfl rfl rfl rfl
  egress := Egress.ok_of_empty fun p => by cases p <;> exact ⟨rfl, rfl⟩
  notices := .of_nil rfl
  streams := ⟨List.nodup_nil, List.nodup_nil, Nat.zero_le _⟩
  agent := Agent.powerOn_ok 0
  recovery := .of_empty rfl rfl rfl
  records := .of_empty rfl rfl rfl rfl rfl rfl rfl
  active := .of_default rfl rfl fun p => by cases p <;> rfl

/-- Settles O6. -/
theorem resetIsLawful : Obligations.ResetIsLawful := ⟨State.powerOn_lawful 0 _, State.powerOn_lawful⟩

/-- Settles O15. -/
theorem powerOnResetLatchesAndClears : Obligations.PowerOnResetLatchesAndClears := fun _ _ _ _ _ => rfl

end Sys2Proof.Machine
end

section
set_option Elab.async false
/-! The frames that the part sends of those it stored (R1 to R5, R7, R8, R124, R144). -/

namespace Sys2Proof.Machine

/-! ## The header with its trail flag set or cleared -/

/-- The flags byte of a header with its trail flag set to `t` (R3). -/
def flagsWith (t : Bool) (b : Byte) : Byte := if t then b ||| 0x20#8 else b &&& 0xDF#8

theorem flagsWith_trail : ∀ (t : Bool) (b : Byte), (flagsWith t b).getLsbD 5 = t := by decide

theorem flagsWith_class : ∀ (t : Bool) (b : Byte), (flagsWith t b).toNat / 64 = b.toNat / 64 := by decide

theorem flagsWith_bit (t : Bool) (b : Byte) {j : Nat} (hj : j < 8) (h5 : j ≠ 5) : (flagsWith t b).getLsbD j = b.getLsbD j := by
  have hall : ∀ (t : Bool) (b : Byte) (j : Fin 8), j ≠ 5 → (flagsWith t b).getLsbD j = b.getLsbD j := by decide
  exact hall t b ⟨j, hj⟩ fun h => h5 (congrArg Fin.val h)

/-- A frame of eight bytes or more is a header and what follows. -/
theorem exists_header {f : List Byte} (h : 8 ≤ f.length) :
    ∃ h0 h1 h2 h3 h4 h5 h6 h7 xs, f = h0 :: h1 :: h2 :: h3 :: h4 :: h5 :: h6 :: h7 :: xs := by
  obtain ⟨h0, h1, h2, h3, h4, h5, h6, h7, htake⟩ := exists_of_length_8 (e := f.take 8) (by simpa using h)
  exact ⟨h0, h1, h2, h3, h4, h5, h6, h7, f.drop 8, by rw [← List.take_append_drop 8 f, htake]; simp⟩

/-- The header of `f` with its trail flag set to `t`, as the head of a frame. -/
def headerWith (t : Bool) (f : List Byte) : List Byte := (withTrailFlag f t).take 8

/-- Every header field but the trail flag is the stored frame's, whatever comes behind the header. -/
theorem headerWith_append {f : List Byte} (h : 8 ≤ f.length) (t : Bool) (ys : List Byte) :
    let w := headerWith t f ++ ys
    frameKind w = frameKind f ∧ frameVersion w = frameVersion f ∧ frameClass w = frameClass f ∧ frameKey w = frameKey f ∧
      payloadLen w = payloadLen f ∧ (∀ i, i < 8 → i ≠ 1 → byteAt w i = byteAt f i) ∧
      (∀ j, j < 8 → j ≠ 5 → (byteAt w 1).getLsbD j = (byteAt f 1).getLsbD j) ∧ trailed w = t := by
  obtain ⟨h0, h1, h2, h3, h4, h5, h6, h7, xs, rfl⟩ := exists_header h
  refine ⟨rfl, rfl, congrArg classOf (flagsWith_class t h1), rfl, rfl, fun i hi h1' => ?_,
    fun j hj h5 => flagsWith_bit t h1 hj h5, flagsWith_trail t h1⟩
  interval_cases i
  · rfl
  · exact absurd rfl h1'
  all_goals rfl

theorem headerWith_length {f : List Byte} (h : 8 ≤ f.length) (t : Bool) : (headerWith t f).length = 8 := by
  simp [headerWith, withTrailFlag, h]

/-! ## The frame check -/

theorem crcBytes_length (bs : List Byte) : (crcBytes bs).length = 4 := toBE_length 4 _

/-- A frame with a fresh check at its end passes the test of R8. -/
theorem check_of_append_crcBytes (b : List Byte) :
    (b ++ crcBytes b).drop ((b ++ crcBytes b).length - 4) = crcBytes ((b ++ crcBytes b).take ((b ++ crcBytes b).length - 4)) := by
  have hlen : (b ++ crcBytes b).length - 4 = b.length := by rw [List.length_append, crcBytes_length, Nat.add_sub_cancel]
  rw [hlen, List.drop_left, List.take_left]

/-! ## Marked, stripped and unchanged copies -/

theorem length_framePayload {f : List Byte} (h : (if trailed f then 12 else 8) + payloadLen f ≤ f.length) :
    (framePayload f).length = payloadLen f := by
  simp only [framePayload, slice, List.length_take, List.length_drop]
  omega

theorem frameRestart_of_flag : ∀ r : Bool, (BitVec.ofNat 8 (flag r)).getLsbD 0 = r := by decide

theorem ofNat_beNat_toBE (q : Seq) : BitVec.ofNat 16 (beNat (toBE 2 q.toNat)) = q := by
  rw [beNat_toBE q.isLt, BitVec.ofNat_toNat, BitVec.setWidth_eq]

/-- What follows the header and the trail of a frame is its payload (R1). -/
theorem framePayload_of_parts {head p c : List Byte} (hhead : (if trailed (head ++ (p ++ c)) then 12 else 8) = head.length)
    (hp : payloadLen (head ++ (p ++ c)) = p.length) : framePayload (head ++ (p ++ c)) = p := by
  rw [framePayload, slice, hhead, hp, List.drop_left, List.take_left]

/-- A marked copy: the header with its trail flag set, the trail with its mark, the payload and a fresh check (R124, R144). -/
theorem markedCopy_stampFrame {f : List Byte} (h : 8 ≤ f.length) (q : Seq) (r : Bool) (l : Lane) :
    let trail := toBE 2 q.toNat ++ [BitVec.ofNat 8 (laneCode l), BitVec.ofNat 8 (flag r)]
    let b := headerWith true f ++ trail ++ framePayload f
    markedCopy (stampFrame f q r) l = b ++ crcBytes b := by
  obtain ⟨h0, h1, h2, h3, h4, h5, h6, h7, xs, rfl⟩ := exists_header h
  rfl

/-- The fields of a trail behind a header (R4). -/
theorem trail_fields {h : List Byte} (hlen : h.length = 8) (q : Seq) (m r : Byte) (ys : List Byte) :
    let w := h ++ (toBE 2 q.toNat ++ [m, r] ++ ys)
    frameSeq w = q ∧ frameMark w = m.toNat ∧ byteAt w 11 = r ∧ frameRestart w = r.getLsbD 0 := by
  obtain ⟨h0, h1, h2, h3, h4, h5, h6, h7, rfl⟩ := exists_of_length_8 hlen
  exact ⟨ofNat_beNat_toBE q, rfl, rfl, rfl⟩

/-- What a frame built of the stored header, a trail where its flag says so, the stored payload and a fresh check keeps of the
frame stored (R1 to R5, R7, R8). -/
theorem frame_of_parts {f trail w : List Byte} {t : Bool} (h : 8 ≤ f.length) (htrail : trail.length = if t then 4 else 0)
    (hpayload : (framePayload f).length = payloadLen f)
    (hw : w = headerWith t f ++ trail ++ framePayload f ++ crcBytes (headerWith t f ++ trail ++ framePayload f)) :
    w.length = 12 + trail.length + payloadLen f ∧ w.length = frameLength w ∧
      w.drop (w.length - 4) = crcBytes (w.take (w.length - 4)) ∧ framePayload w = framePayload f ∧
      frameKind w = frameKind f ∧ frameVersion w = frameVersion f ∧ frameClass w = frameClass f ∧ frameKey w = frameKey f ∧
      payloadLen w = payloadLen f ∧ (∀ i, i < 8 → i ≠ 1 → byteAt w i = byteAt f i) ∧
      (∀ j, j < 8 → j ≠ 5 → (byteAt w 1).getLsbD j = (byteAt f 1).getLsbD j) ∧ trailed w = t := by
  have hcheck := check_of_append_crcBytes (headerWith t f ++ trail ++ framePayload f)
  rw [← hw] at hcheck
  have hclen := crcBytes_length (headerWith t f ++ trail ++ framePayload f)
  generalize crcBytes (headerWith t f ++ trail ++ framePayload f) = c at hw hclen
  have hlength : w.length = 12 + trail.length + payloadLen f := by
    simp only [hw, List.length_append, headerWith_length h, hpayload, hclen]
    omega
  obtain ⟨hkind, hversion, hclass, hkey, hplen, hbytes, hbits, htrailed⟩ := headerWith_append h t (trail ++ framePayload f ++ c)
  rw [← List.append_assoc, ← List.append_assoc, ← hw] at hkind hversion hclass hkey hplen hbytes hbits htrailed
  have hframe : w.length = frameLength w := by
    rw [hlength, frameLength, htrailed, hplen, htrail]
    omega
  have hpay : framePayload w = framePayload f := by
    rw [List.append_assoc] at hw
    rw [hw] at htrailed hplen ⊢
    refine framePayload_of_parts ?_ (hplen.trans hpayload.symm)
    rw [htrailed, List.length_append, headerWith_length h, htrail]
    cases t <;> rfl
  exact ⟨hlength, hframe, hcheck, hpay, hkind, hversion, hclass, hkey, hplen, hbytes, hbits, htrailed⟩

/-- Settles O50. -/
theorem sentCopiesAreWellFormedFrames : Obligations.SentCopiesAreWellFormedFrames := by
  unfold Obligations.SentCopiesAreWellFormedFrames
  intro checked sameHeader
  refine ⟨fun f q r l htrail hlen => ?_, fun f htrail hlen => ?_, fun f c => ⟨fun l hl => ?_, fun hm hs => ?_, fun hm hs => ?_⟩⟩
  · have hframe : frameLength f = 12 + payloadLen f := by simp [frameLength, htrail]; omega
    have h8 : 8 ≤ f.length := by omega
    have hpayload : (framePayload f).length = payloadLen f := length_framePayload (by rw [if_neg (by simp [htrail])]; omega)
    intro w
    have hw := markedCopy_stampFrame h8 q r l
    obtain ⟨hlength, hframe', hcheck, hpay, hkind, hversion, hclass, hkey, hplen, hbytes, hbits, htrailed⟩ :=
      frame_of_parts h8 rfl hpayload hw
    obtain ⟨hseq, hmark, h11, hrestart⟩ := trail_fields (headerWith_length h8 true) q (BitVec.ofNat 8 (laneCode l))
      (BitVec.ofNat 8 (flag r)) (framePayload f ++ crcBytes _)
    simp only [← List.append_assoc] at hseq hmark h11 hrestart hw
    rw [← hw] at hseq hmark h11 hrestart
    refine ⟨hlength.trans ?_, ⟨hcheck, hframe'⟩, ⟨hkind, hversion, hclass, hkey, hplen, hpay, hbytes, hbits⟩, htrailed, hseq,
      hrestart.trans (frameRestart_of_flag r), h11.trans ?_, hmark.trans ?_⟩
    · simp only [List.length_append, toBE_length, List.length_cons, List.length_nil]
      omega
    · cases r <;> rfl
    · cases l <;> rfl
  · have hframe : frameLength f = 16 + payloadLen f := by simp [frameLength, htrail]; omega
    have h8 : 8 ≤ f.length := by omega
    have hpayload : (framePayload f).length = payloadLen f := length_framePayload (by rw [if_pos htrail]; omega)
    intro w
    have hw : w = headerWith false f ++ [] ++ framePayload f ++ crcBytes (headerWith false f ++ [] ++ framePayload f) := by
      rw [List.append_nil]
      rfl
    obtain ⟨hlength, hframe', hcheck, hpay, hkind, hversion, hclass, hkey, hplen, hbytes, hbits, htrailed⟩ :=
      frame_of_parts h8 rfl hpayload hw
    refine ⟨?_, ⟨hcheck, hframe'⟩, ⟨hkind, hversion, hclass, hkey, hplen, hpay, hbytes, hbits⟩, htrailed⟩
    rw [hlength, hlen, hframe, List.length_nil]
    omega
  · simp only [wireBytes, hl]
  · simp only [wireBytes, hm, hs, if_true]
  · simp [wireBytes, hm, hs]

end Sys2Proof.Machine
end

section
set_option Elab.async false
/-! The port receivers and the classifier, command by command (R8, R22 to R26, R29 to R36, R44, R45, R133 to R138, R150). -/

namespace Sys2Proof.Machine

/-! ## Port receivers -/

/-- Settles O16. -/
theorem linkChangeReachesTheOtherBlocks : Obligations.LinkChangeReachesTheOtherBlocks := by
  intro p st s hne
  have h : execLinkChange p st s = .next ((({ s with pins := { s.pins with link := s.pins.link.set p st } }).withRx p
      ((s.rx.get p).linkTo st)).send (linkMessages p st)) := if_neg hne
  refine Eq.trans h ?_
  cases p <;> cases st <;> rfl

/-- Settles O17. -/
theorem frameStartBeginsReception : Obligations.FrameStartBeginsReception := by
  intro p bs s
  show execFrameStart p bs s = _
  unfold execFrameStart
  dsimp only
  cases hlink : (s.rx.get p).link with
  | down => rfl
  | up => cases hreception : (s.rx.get p).reception <;> rfl

/-- The tests of a frame end, in the words of R135. -/
theorem Receiver.frameEnd_eq (r : Receiver) (n : Reception) (err : Bool) :
    r.frameEnd n err =
      if n.length < 12 ∨ 1536 < n.length then { r with reception := none, badLength := bump r.badLength }
      else if err = true ∨ n.bytes.drop (n.bytes.length - 4) ≠ crcBytes (n.bytes.take (n.bytes.length - 4)) then
        { r with reception := none, badCheck := bump r.badCheck }
      else if n.length ≠ frameLength n.bytes then { r with reception := none, badLength := bump r.badLength }
      else match r.awaiting with
        | none => { r with reception := none, received := bump r.received, awaiting := some n.bytes }
        | some _ => { r with reception := none, received := bump r.received, overrun := bump r.overrun } := by
  have hlength : ¬ (12 ≤ n.length ∧ n.length ≤ Config.stagingBytes) ↔ n.length < 12 ∨ 1536 < n.length := by
    simp only [Config.stagingBytes]
    omega
  have hcheck : (!checkOk n.bytes) = true ↔
      n.bytes.drop (n.bytes.length - 4) ≠ crcBytes (n.bytes.take (n.bytes.length - 4)) := by simp [checkOk]
  unfold Receiver.frameEnd endTest
  by_cases h1 : n.length < 12 ∨ 1536 < n.length
  · rw [if_pos (hlength.mpr h1), if_pos h1]
  rw [if_neg (mt hlength.mp h1), if_neg h1]
  cases err with
  | true => rfl
  | false =>
    by_cases h2 : n.bytes.drop (n.bytes.length - 4) ≠ crcBytes (n.bytes.take (n.bytes.length - 4))
    · rw [if_neg (by simp), if_pos (hcheck.mpr h2), if_pos (.inr h2)]
    have hgood : ¬ (false = true ∨ n.bytes.drop (n.bytes.length - 4) ≠ crcBytes (n.bytes.take (n.bytes.length - 4))) := by
      simpa using h2
    rw [if_neg (by simp), if_neg (mt hcheck.mp h2), if_neg hgood]
    by_cases h3 : n.length ≠ frameLength n.bytes
    · rw [if_pos h3, if_pos h3]
    · rw [if_neg h3, if_neg h3] <;> cases r.awaiting <;> rfl

/-- Settles O18. -/
theorem frameEndTestsInOrder : Obligations.FrameEndTestsInOrder := by
  refine fun p err s => ⟨fun hnone => ?_, fun n hn => ?_⟩
  · show execFrameEnd p err s = _
    simp only [execFrameEnd, hnone]
  · show execFrameEnd p err s = _
    simp only [execFrameEnd, hn, Receiver.frameEnd_eq]
    rfl

/-- Settles O19. -/
theorem receiverAnswersTheAgent : Obligations.ReceiverAnswersTheAgent := by
  refine fun p s rest => ⟨fun h => ?_, fun q clear h => ?_, fun h => ?_⟩
  · show execLinkStateRead p s = _
    exact State.onMsg_of_takeFirst _ h
  · show execReceiverCounterRead p s = _
    refine Eq.trans (State.onMsg_of_takeFirst _ h) ?_
    cases clear <;> rfl
  · show execReceiverFullRestart p s = _
    exact State.onMsg_of_takeFirst _ h

/-! ## Frames from the lanes -/

theorem forwardUnknown_iff (c : Classifier) (l : Lane) :
    forwardUnknown c l = true ↔ c.params.unknownInbound = .all ∨ (c.params.unknownInbound = .preferredLane ∧
      (l = c.params.preferredLane ∨ c.links.get c.params.preferredLane = .down)) := by
  unfold forwardUnknown
  cases h : c.params.unknownInbound <;> simp

/-- A frame that passes the header check and is not CROSSED is classified by its key (R33 to R35). -/
theorem State.classifyLane_of_key {s : State} {l : Lane} {f : List Byte} (hheader : headerOk f = true)
    (hmark : trailed f = true → frameMark f = match l with | .l0 => 0 | .l1 => 1) :
    s.classifyLane l f =
      if frameKind f = 2 ∧ frameKey f = ownRequestKey s.node then
        if trailed f then
          s.toMerge (lanePort l) (.management
            { lane := l, seq := frameSeq f, restart := frameRestart f, cls := frameClass f, len := frameLength f,
              gen := s.cls.gen, buf := f })
        else s.withClsCounts fun c => { c with noTrail := bump c.noTrail }
      else match lookup s.cls.bank (frameKey f) with
      | some .inbound =>
        if trailed f then
          s.toMerge (lanePort l) (.directory
            { key := frameKey f, seq := frameSeq f, restart := frameRestart f, cls := frameClass f, len := frameLength f,
              gen := s.cls.gen, buf := f })
        else s.withClsCounts fun c => { c with noTrail := bump c.noTrail }
      | some .outbound => s.withClsCounts fun c => { c with wrongDirection := bump c.wrongDirection }
      | none => s.unknownFromLane l f := by
  have h1 : ¬ ((!headerOk f || (trailed f && !decide (frameMark f < 2))) = true) := by
    cases htrail : trailed f with
    | false => simp [hheader]
    | true => cases l <;> simp [hheader, hmark htrail]
  have h2 : ¬ ((trailed f && frameMark f != laneCode l) = true) := by
    cases htrail : trailed f with
    | false => simp
    | true => cases l <;> simp [hmark htrail, laneCode]
  unfold State.classifyLane
  rw [if_neg h1, if_neg h2]
  rfl

/-- Settles O21. -/
theorem laneFrameByItsKey : Obligations.LaneFrameByItsKey := by
  intro l f s hawaiting hheader hmark s1 own
  have hexec : exec (.classify (lanePort l)) s = .next (s1.classifyLane l f) := by
    rw [exec_classify_of_awaiting hawaiting]
    cases l <;> rfl
  rw [hexec, State.classifyLane_of_key hheader hmark]
  have hnode : s1.node = s.node := rfl
  have hbank : s1.cls = s.cls := rfl
  rw [hnode, hbank]
  refine ⟨fun hown htrail => ?_, fun hown hlookup htrail => ?_, fun htrail hkey => ?_, fun hown hlookup => ?_,
    fun hown hlookup => ?_⟩
  · rw [if_pos hown, if_pos htrail]
  · rw [if_neg hown, hlookup]
    dsimp only
    rw [if_pos htrail]
  · by_cases hown : own
    · rw [if_pos hown, if_neg (by simp [htrail])]
      rfl
    · rw [if_neg hown, hkey.resolve_left hown]
      dsimp only
      rw [if_neg (by simp [htrail])]
      rfl
  · rw [if_neg hown, hlookup]
    rfl
  · rw [if_neg hown, hlookup]
    intro s2 forward
    have hforward : forwardUnknown s2.cls l = true ↔ forward := forwardUnknown_iff _ _
    have hunknown : s1.unknownFromLane l f = if forwardUnknown s2.cls l = true then s2.toMerge (lanePort l) (.unknown
        { key := frameKey f, lane := l, cls := frameClass f, len := frameLength f, pool := s.cls.params.unknownPool,
          gen := s.cls.gen, buf := f }) else s2 := by
      cases l <;> rfl
    dsimp only
    rw [hunknown]
    exact ⟨fun h => by rw [if_pos (hforward.mpr h)], fun h => by rw [if_neg (mt hforward.mp h)]⟩

/-! ## The directory bank and its shadow -/

theorem DeviceParams.put_entry (p : DeviceParams) (e : DeviceEntry) (i : Fin 8) :
    (p.put e).entry i = if i = (match e with
      | .unknownInbound _ => 0 | .preferredLane _ => 1 | .unknownOutbound _ => 2 | .unknownPool _ => 3
      | .noticeDestination _ => 4 | .noticeInterval _ => 5 | .sessionTimeout _ => 6 | .managementClass _ => (7 : Fin 8))
      then e else p.entry i := by
  cases e <;> fin_cases i <;> rfl

theorem recordWriteOn_eq (rs : List DirRecord) (sh : ClassifierShadow) :
    recordWriteOn rs sh =
      if 384 < (writeRecords sh.bank rs).length then .error .shadowFull else .ok { sh with bank := writeRecords sh.bank rs } := by
  simp only [recordWriteOn, Config.bankRecords]
  by_cases h : (writeRecords sh.bank rs).length ≤ 384
  · rw [if_pos h, if_neg (by omega)]
  · rw [if_neg h, if_pos (by omega)]

/-- Settles O23. -/
theorem classifierStaging : Obligations.ClassifierStaging := by
  refine ⟨fun p e i => DeviceParams.put_entry p e i, fun s rest =>
    ⟨fun h => ?_, fun h => ?_, fun rs h => ?_, fun ks h => ?_, fun h => ?_, fun es h => ?_⟩⟩
  · show execClassifierShadowCreate s = _
    refine Eq.trans (State.onMsg_of_takeFirst _ h) ?_
    dsimp only
    cases s.cls.shadow <;> rfl
  · show execClassifierShadowDiscard s = _
    exact State.onMsg_of_takeFirst _ h
  · show execRecordWrite s = _
    refine Eq.trans (State.onMsg_of_takeFirst _ h) ?_
    simp only [State.clsShadowWrite]
    cases hsh : s.cls.shadow with
    | none => rfl
    | some sh =>
      dsimp only
      rw [recordWriteOn_eq]
      by_cases hfull : 384 < (writeRecords sh.bank rs).length
      · rw [if_pos hfull, if_pos hfull]
        rfl
      · rw [if_neg hfull, if_neg hfull]
        rfl
  · show execRemoval s = _
    refine Eq.trans (State.onMsg_of_takeFirst _ h) ?_
    simp only [State.clsShadowWrite]
    cases hsh : s.cls.shadow with
    | none => rfl
    | some sh =>
      dsimp only
      unfold removalOn firstAbsent
      cases ks.findIdx? fun k => (findRecord sh.bank k).isNone <;> rfl
  · show execEmptyBankWrite s = _
    refine Eq.trans (State.onMsg_of_takeFirst _ h) ?_
    simp only [State.clsShadowWrite]
    cases s.cls.shadow <;> rfl
  · show execDeviceWrite s = _
    refine Eq.trans (State.onMsg_of_takeFirst _ h) ?_
    simp only [State.clsShadowWrite]
    cases s.cls.shadow <;> rfl

/-- A record's lookup after it has been inserted: itself under its key, and every other record stands (R26). -/
theorem findRecord_insertRecord (r : DirRecord) (b : List DirRecord) (k : Key) :
    findRecord (insertRecord r b) k = if r.key = k then some r else findRecord b k := by
  induction b with
  | nil =>
    by_cases h : r.key = k <;> simp [insertRecord, findRecord, h]
  | cons x xs ih =>
    unfold insertRecord
    split
    · by_cases h : r.key = k <;> simp [findRecord, h]
    split
    · rename_i hsame
      by_cases h : r.key = k
      · simp [findRecord, h]
      · have hx : x.key ≠ k := fun hx => h (hsame.trans hx)
        simp [findRecord, h, hx]
    · rename_i hne
      unfold findRecord at ih ⊢
      by_cases hx : x.key = k
      · have h : r.key ≠ k := fun h => hne (h.trans hx.symm)
        simp [hx, h]
      · rw [List.find?_cons_of_neg (by simpa using hx), ih, List.find?_cons_of_neg (by simpa using hx)]

/-- The last record written under a key wins, and without one the bank's record stands (R26). -/
theorem findRecord_writeRecords (b rs : List DirRecord) (k : Key) :
    findRecord (writeRecords b rs) k = (findRecord rs.reverse k).or (findRecord b k) := by
  induction rs generalizing b with
  | nil => rfl
  | cons r rs ih =>
    have hwrite : writeRecords b (r :: rs) = writeRecords (insertRecord r b) rs := rfl
    have hsplit : findRecord (r :: rs).reverse k = (findRecord rs.reverse k).or (if r.key = k then some r else none) := by
      rw [List.reverse_cons, findRecord, List.find?_append]
      by_cases h : r.key = k <;> simp [findRecord, h]
    rw [hwrite, ih, findRecord_insertRecord, hsplit, Option.or_assoc]
    by_cases h : r.key = k <;> simp [h]

/-- Settles O24. -/
theorem recordWriteInsertsOrReplaces : Obligations.RecordWriteInsertsOrReplaces := by
  refine fun b rs hb => ⟨ascending_writeRecords rs hb, fun k => ?_⟩
  rw [findRecord_writeRecords]
  cases findRecord rs.reverse k <;> rfl

/-! ## Reads, links and restarts -/

/-- Settles O26. -/
theorem classifierReadsLinksAndRestarts : Obligations.ClassifierReadsLinksAndRestarts := by
  refine ⟨fun p => ⟨rfl, rfl, rfl, rfl, rfl, rfl, rfl, rfl⟩,
    fun s rest b => ⟨fun k h => ?_, fun u i h => ?_, fun u k n h => ?_⟩,
    fun s rest => ⟨fun l st h => ?_, fun clear h => ?_, fun p clear h => ?_, fun h => ?_,
      fun h => ?_⟩⟩
  · show execRecordRead s = _
    refine Eq.trans (State.onMsg_of_takeFirst _ h) ?_
    cases b with
    | active => rfl
    | shadow =>
      simp only [Classifier.bankNamed]
      cases s.cls.shadow <;> rfl
  · show execClassifierEntryRead u s = _
    refine Eq.trans (State.onMsg_of_takeFirst _ h) ?_
    cases b with
    | active => rfl
    | shadow =>
      simp only [Classifier.paramsNamed]
      cases s.cls.shadow <;> rfl
  · show execNextRead u s = _
    refine Eq.trans (State.onMsg_of_takeFirst _ h) ?_
    cases b with
    | active => rfl
    | shadow =>
      simp only [Classifier.bankNamed]
      cases s.cls.shadow <;> rfl
  · show execClassifierLinkChange l s = _
    refine Eq.trans (State.onMsg_of_takeFirst _ h) ?_
    simp only [State.took, List.append_nil]
    rfl
  · show execClassifierCounterRead s = _
    refine Eq.trans (State.onMsg_of_takeFirst _ h) ?_
    cases clear <;> rfl
  · show execClassifierCounterRead s = _
    refine Eq.trans (State.onMsg_of_takeFirst _ h) ?_
    cases clear <;> rfl
  · show execClassifierTrafficRestart s = _
    exact State.onMsg_of_takeFirst _ h
  · show execClassifierFullRestart s = _
    exact State.onMsg_of_takeFirst _ h

end Sys2Proof.Machine
end

section
set_option Elab.async false
/-! The egress unit, command by command: enqueues, copy places and the transmitter's choice (R107, R139 to R144). -/

namespace Sys2Proof.Machine

/-! ## Enqueues -/

theorem Egress.refusal_eq (g : Egress) (e : Enqueue) :
    g.refusal e =
      if (g.ports.get e.port).link = .down then some .down
      else if (g.ports.get e.port).limits.get e.cls ≤ ((g.ports.get e.port).queues.get e.cls).length ∨
          160 ≤ (g.ports.get e.port).slots then some .full
      else if e.ref.restart ≠ g.restarts then some .void
      else none := by
  unfold Egress.refusal
  dsimp only
  congr 1
  by_cases hlimit : (g.ports.get e.port).limits.get e.cls ≤ ((g.ports.get e.port).queues.get e.cls).length
  · rw [if_pos hlimit, if_pos (.inl hlimit)]
  · simp only [hlimit, if_false, false_or, Config.slots]

/-- Settles O47. -/
theorem enqueueRequestsAreTestedInOrder : Obligations.EnqueueRequestsAreTestedInOrder := by
  intro who s e rest h x slots refused
  have hrefused : s.egr.refusal e = refused := s.egr.refusal_eq e
  show execEnqueueRequest who s = _
  refine Eq.trans (State.onMsg_of_takeFirst _ h) ?_
  unfold State.enqueueRequest
  dsimp only
  rw [hrefused]
  cases refused <;> rfl

/-! ## The transmitter's choice -/

theorem placedHead_eq_some {q rest : List CopyPlace} {c : CopyPlace} :
    placedHead q = some (c, rest) ↔ q = c :: rest ∧ c.placed = true := by
  cases q with
  | nil => simp [placedHead]
  | cons d ds =>
    by_cases hd : d.placed = true
    · simp only [placedHead, hd, if_true, Option.some.injEq, Prod.mk.injEq, List.cons.injEq, iff_self_and]
      rintro ⟨rfl, -⟩
      exact hd
    · simp only [placedHead, hd, if_false, reduceCtorEq, List.cons.injEq, false_iff, not_and, Bool.false_eq_true]
      rintro ⟨rfl, -⟩
      exact hd

theorem placedHead_eq_none {q : List CopyPlace} : placedHead q = none ↔ ∀ d ds, q = d :: ds → d.placed = false := by
  cases q with
  | nil => simp [placedHead]
  | cons d ds => by_cases hd : d.placed = true <;> simp [placedHead, hd]

/-- The choice takes the PLACED head of the highest class that has one (R143). -/
theorem choose_eq_some {q q' : PerClass (List CopyPlace)} {c : CopyPlace} :
    choose q = some (c, q') ↔
      ∃ k rest, placedHead (q.get k) = some (c, rest) ∧ q' = q.set k rest ∧
        ∀ k', classCode k < classCode k' → placedHead (q.get k') = none := by
  constructor
  · intro h
    unfold choose at h
    split at h
    · rename_i d rest h3
      obtain ⟨rfl, rfl⟩ := Prod.mk.inj (Option.some.inj h)
      exact ⟨.c3, rest, h3, rfl, fun k' hk => by cases k' <;> simp [classCode] at hk⟩
    rename_i h3
    split at h
    · rename_i d rest h2
      obtain ⟨rfl, rfl⟩ := Prod.mk.inj (Option.some.inj h)
      exact ⟨.c2, rest, h2, rfl, fun k' hk => by cases k' <;> simp [classCode] at hk; exact h3⟩
    rename_i h2
    split at h
    · rename_i d rest h1
      obtain ⟨rfl, rfl⟩ := Prod.mk.inj (Option.some.inj h)
      exact ⟨.c1, rest, h1, rfl, fun k' hk => by cases k' <;> simp [classCode] at hk <;> assumption⟩
    rename_i h1
    split at h
    · rename_i d rest h0
      obtain ⟨rfl, rfl⟩ := Prod.mk.inj (Option.some.inj h)
      exact ⟨.c0, rest, h0, rfl, fun k' hk => by cases k' <;> simp [classCode] at hk <;> assumption⟩
    · cases h
  · rintro ⟨k, rest, hk, rfl, habove⟩
    have h3 := habove .c3
    have h2 := habove .c2
    have h1 := habove .c1
    unfold choose
    cases k <;> simp only [classCode, PerClass.get] at hk h3 h2 h1
    · rw [h3 (by omega), h2 (by omega), h1 (by omega), hk]
      rfl
    · rw [h3 (by omega), h2 (by omega), hk]
      rfl
    · rw [h3 (by omega), hk]
      rfl
    · rw [hk]
      rfl

/-! ## Records and places -/

/-- The bytes that a reference of the present restart count names (R107). -/
theorem Admission.stored_of_mem {a : Admission} {ref : FrameRef} {r : FrameRec} (hids : (a.records.map (·.id)).Nodup)
    (hr : r ∈ a.records) (hid : r.id = ref.id) (hrestart : ref.restart = a.restarts) : a.stored ref = r.bytes := by
  cases hrec : a.recordOf ref with
  | none =>
    simp only [Admission.recordOf, hrestart, if_true, List.find?_eq_none] at hrec
    exact absurd (by simpa using hid) (hrec r hr)
  | some x =>
    obtain ⟨-, hx, hxid⟩ := Admission.recordOf_some hrec
    obtain rfl := List.inj_on_of_nodup_map hids hx hr (hxid.trans hid.symm)
    simp only [Admission.stored, hrec]

theorem PortEgress.hasPlace_iff (x : PortEgress) (n : Nat) : x.hasPlace n = true ↔ ∃ k, ∃ y ∈ x.queues.get k, y.place = n := by
  simp only [PortEgress.hasPlace, Bool.or_eq_true, List.any_eq_true, beq_iff_eq]
  constructor
  · rintro (((h | h) | h) | h)
    · exact ⟨.c0, h⟩
    · exact ⟨.c1, h⟩
    · exact ⟨.c2, h⟩
    · exact ⟨.c3, h⟩
  · rintro ⟨k, h⟩
    cases k with
    | c0 => exact .inl (.inl (.inl h))
    | c1 => exact .inl (.inl (.inr h))
    | c2 => exact .inl (.inr h)
    | c3 => exact .inr h

/-- Settles O48. -/
theorem copiesArePlacedAndChosenByClass : Obligations.CopiesArePlacedAndChosenByClass := by
  refine ⟨fun a ref r hids hr hid hrestart => Admission.stored_of_mem hids hr hid hrestart, fun q q' c => ?_,
    fun s p => ⟨fun h => ?_, fun c q hlink htx hchoose => ?_⟩, fun place s c held rest h => ?_⟩
  · simp only [choose_eq_some, placedHead_eq_some, placedHead_eq_none, and_assoc]
    exact ⟨fun ⟨k, rest, hk, hc, hq, h⟩ => ⟨k, rest, hk, hc, hq, fun k' d ds hlt => h k' hlt d ds⟩,
      fun ⟨k, rest, hk, hc, hq, h⟩ => ⟨k, rest, hk, hc, hq, fun k' hlt d ds => h k' d ds hlt⟩⟩
  · unfold State.transmit
    dsimp only
    obtain hdown | htx | hnone := h
    · rw [if_neg (by simp [hdown])]
    · rw [if_neg (fun hidle => htx hidle.2)]
    · split
      · rw [hnone]
      · rfl
  · unfold State.transmit
    dsimp only
    rw [if_pos ⟨hlink, htx⟩, hchoose]
    rfl
  · intro x present queues removed
    have hexec : exec (.copyAddAnswer place) s = .next ((s.took rest []).copyAddAnswer c held) := by
      show execCopyAddAnswer place s = _
      refine Eq.trans (State.onMsg_of_takeFirst _ h) ?_
      simp only [State.took, List.append_nil]
    have hplace : x.hasPlace c.place = true ↔ present := x.hasPlace_iff c.place
    rw [hexec]
    simp only [State.took, List.append_nil]
    unfold State.copyAddAnswer
    dsimp only
    refine ⟨fun hp => ?_, fun hp hheld => ?_, fun hp hheld hlink => ?_, fun hp hheld hlink => ?_⟩
    · rw [if_pos (by simpa using mt hplace.mp hp)]
      rfl
    · rw [if_neg (by simpa using hplace.mpr hp), if_pos (by simp [hheld])]
      rfl
    · rw [if_neg (by simpa using hplace.mpr hp), if_neg (by simp [hheld]), if_pos hlink]
      rfl
    · have hup : ¬ (s.egr.ports.get c.port).link = .down := by rw [hlink]; decide
      rw [if_neg (by simpa using hplace.mpr hp), if_neg (by simp [hheld]), if_neg hup]
      rfl

end Sys2Proof.Machine
end

section
set_option Elab.async false
/-! The admission unit, command by command, with the staging of the egress unit's limits (R97 to R117, R148, R206). -/

namespace Sys2Proof.Machine

/-! ## Grants -/

theorem Admission.policerAllows_eq_false {a : Admission} {q : GrantReq} :
    a.policerAllows q = false ↔
      ∃ i, q.policer = some i ∧ (a.policers[i]).enabled = true ∧ (a.policers[i]).credit < q.len := by
  unfold Admission.policerAllows
  cases hq : q.policer with
  | none => simp
  | some i => simp

theorem Admission.poolAllows_eq_false {a : Admission} {q : GrantReq} :
    a.poolAllows q = false ↔ a.quotas[q.pool] < a.inUse[q.pool] + blocksFor q.len ∨
      a.free < blocksFor q.len + (16 - a.reserve) := by
  simp only [Admission.poolAllows, Bool.and_eq_false_iff, decide_eq_false_iff_not, Nat.not_le, Config.reserveBlocks]

/-- A refusal is counted for its stream's key and direction (R105). -/
theorem Admission.countRefusal_eq (a : Admission) (q : GrantReq) (f : KeyCount → KeyCount) :
    a.countRefusal q f = { a with counts := match q.stream with
      | none => a.counts
      | some k => a.counts.map fun c =>
        if c.key = k ∧ c.dir = (if q.who = .merge then Direction.inbound else .outbound) then f c else c } := by
  unfold Admission.countRefusal
  cases q.stream <;> rfl

/-- The credits after a grant: an enabled policer's falls by the length (R99). -/
theorem Admission.grant_policers_eq (a : Admission) (q : GrantReq) :
    (a.grant q).policers = match q.policer with
      | none => a.policers
      | some i =>
        if (a.policers[i]).enabled = true then
          a.policers.set i { a.policers[i] with credit := (a.policers[i]).credit - q.len }
        else a.policers := by
  unfold Admission.grant
  dsimp only
  cases q.policer with
  | none => rfl
  | some i =>
    dsimp only
    unfold Policer.charge
    split
    · rfl
    · exact Vector.set_getElem_self _

/-- Settles O38. -/
theorem grantsAreTestedAndMadeAsOneChange : Obligations.GrantsAreTestedAndMadeAsOneChange := by
  refine ⟨fun who s q rest h => ?_, fun who s hand len rest h => ?_⟩
  · intro n overRate noBuffer counted charged
    have hexec : exec (.grantRequest who) s = .next (State.grantRequest { s with net := rest } q) := by
      show execGrantRequest who s = _
      exact State.onMsg_of_takeFirst _ h
    have hrate : s.adm.policerAllows q = false ↔ overRate := Admission.policerAllows_eq_false
    have hbuffer : s.adm.poolAllows q = false ↔ noBuffer := Admission.poolAllows_eq_false
    rw [hexec]
    unfold State.grantRequest
    refine ⟨fun hover => ?_, fun hover hno => ?_, fun hover hno => ?_⟩
    · rw [if_pos (by simpa using hrate.mpr hover), Admission.countRefusal_eq]
      rfl
    · rw [if_neg (by simpa using mt hrate.mp hover), if_pos (by simpa using hbuffer.mpr hno), Admission.countRefusal_eq]
      rfl
    · have hgrant : s.adm.grant q =
          { s.adm with
            policers := charged, free := s.adm.free - n, inUse := s.adm.inUse.set q.pool (s.adm.inUse[q.pool] + n),
            nextId := s.adm.nextId + 1,
            records := s.adm.records ++
              [{ id := s.adm.nextId, source := .pool q.pool, blocks := n, count := 1, bytes := [], watch := false }] } := by
        rw [show charged = (s.adm.grant q).policers from (s.adm.grant_policers_eq q).symm]
        rfl
      rw [if_neg (by simpa using mt hrate.mp hover), if_neg (by simpa using mt hbuffer.mp hno)]
      dsimp only
      rw [hgrant]
      rfl
  · show execReserveGrantRequest who s = _
    refine Eq.trans (State.onMsg_of_takeFirst _ h) ?_
    unfold State.reserveGrantRequest
    rw [apply_ite Host.Outcome.next, apply_ite Host.Outcome.next]
    rfl

/-! ## Refills and references -/

theorem Admission.recordOf_eq_none {a : Admission} {ref : FrameRef} :
    a.recordOf ref = none ↔ ref.restart ≠ a.restarts ∨ ∀ r ∈ a.records, r.id ≠ ref.id := by
  unfold Admission.recordOf
  by_cases h : ref.restart = a.restarts <;> simp [h]

/-- A change of the record that a reference names, where it names one (R107). -/
theorem Admission.updRecord_of_recordOf {a : Admission} {ref : FrameRef} {r : FrameRec} (h : a.recordOf ref = some r)
    (f : FrameRec → FrameRec) :
    a.updRecord ref f = { a with records := a.records.map fun r => if r.id = ref.id then f r else r } :=
  if_pos (Admission.recordOf_some h).1

theorem Admission.returnBlocks_eq (a : Admission) (r : FrameRec) :
    a.returnBlocks r =
      { a with
        free := a.free + r.blocks,
        reserve := if r.source = .reserve then a.reserve - r.blocks else a.reserve,
        inUse := match r.source with
          | .pool i => a.inUse.set i (a.inUse[i] - r.blocks)
          | .reserve => a.inUse,
        records := a.records.filter fun x => !(x.id == r.id) } := by
  unfold Admission.returnBlocks
  cases r.source <;> rfl

/-- Settles O39. -/
theorem refillsAndReferences : Obligations.RefillsAndReferences := by
  refine ⟨fun a ref => ⟨fun r h => Admission.recordOf_some h, Admission.recordOf_eq_none⟩,
    fun s => ⟨_, rfl, rfl, fun i => ?_⟩, fun s rest => ⟨fun place c h => ?_, fun frame ref h => ?_, fun ref h => ?_⟩⟩
  · simp only [Fin.getElem_fin, Vector.getElem_map, Policer.refilled]
  · show execCopyAdd place s = _
    refine Eq.trans (State.onMsg_of_takeFirst _ h) ?_
    unfold State.copyAdd
    dsimp only
    cases hr : s.adm.recordOf c.ref with
    | none => rfl
    | some r =>
      dsimp only
      rw [Admission.updRecord_of_recordOf hr]
      rfl
  · show execReferenceRelease frame s = _
    refine Eq.trans (State.onMsg_of_takeFirst _ h) ?_
    unfold State.releaseRef
    simp only [State.took, List.append_nil]
    cases hr : s.adm.recordOf ref with
    | none => rfl
    | some r =>
      dsimp only
      by_cases hcount : 1 < r.count
      · rw [if_pos hcount, if_neg (by omega), Admission.updRecord_of_recordOf hr]
        rfl
      · rw [if_neg hcount, if_pos (by omega), Admission.returnBlocks_eq]
        rfl
  · show execReleaseWatch s = _
    refine Eq.trans (State.onMsg_of_takeFirst _ h) ?_
    simp only [State.took, List.append_nil]
    cases hr : s.adm.recordOf ref with
    | none => rfl
    | some r =>
      dsimp only
      rw [Admission.updRecord_of_recordOf hr]
      rfl

/-! ## Staging and reading -/

theorem putPolicer_foldl (es : List PolicerEntry) (sh : AdmissionShadow) :
    es.foldl AdmissionShadow.putPolicer sh =
      { sh with
        policers := es.foldl (fun v e => v.set e.index { enabled := e.enabled, ceiling := e.ceiling, refill := e.refill })
          sh.policers } := by
  induction es generalizing sh with
  | nil => rfl
  | cons e es ih => exact ih _

theorem putPool_foldl (es : List PoolEntry) (sh : AdmissionShadow) :
    es.foldl AdmissionShadow.putPool sh = { sh with quotas := es.foldl (fun v e => v.set e.index e.quota) sh.quotas } := by
  induction es generalizing sh with
  | nil => rfl
  | cons e es ih => exact ih _

/-- Settles O40. -/
theorem policerPoolAndQueueStaging : Obligations.PolicerPoolAndQueueStaging := by
  refine fun s rest => ⟨fun h => ?_, fun h => ?_, fun es h => ?_, fun es h => ?_, fun u b i h => ?_, fun u b i h => ?_,
    fun h => ?_, fun h => ?_, fun h => ?_, fun es h => ?_, fun u b p c h => ?_⟩
  · show execAdmissionShadowCreate s = _
    refine Eq.trans (State.onMsg_of_takeFirst _ h) ?_
    dsimp only
    cases s.adm.shadow <;> rfl
  · show execAdmissionShadowDiscard s = _
    exact State.onMsg_of_takeFirst _ h
  · show execPolicerWrite s = _
    refine Eq.trans (State.onMsg_of_takeFirst _ h) ?_
    simp only [State.admShadowWrite, putPolicer_foldl]
    cases s.adm.shadow <;> rfl
  · show execPoolWrite s = _
    refine Eq.trans (State.onMsg_of_takeFirst _ h) ?_
    simp only [State.admShadowWrite, putPool_foldl]
    cases s.adm.shadow <;> rfl
  · show execAdmissionEntryRead u (.policer i) s = _
    refine Eq.trans (State.onMsg_of_takeFirst _ h) ?_
    unfold Admission.entryAnswer
    cases b <;> cases s.adm.shadow <;> rfl
  · show execAdmissionEntryRead u (.pool i) s = _
    refine Eq.trans (State.onMsg_of_takeFirst _ h) ?_
    unfold Admission.entryAnswer
    cases b <;> cases s.adm.shadow <;> rfl
  · show execAdmissionStateRead s = _
    exact State.onMsg_of_takeFirst _ h
  · show execEgressShadowCreate s = _
    refine Eq.trans (State.onMsg_of_takeFirst _ h) ?_
    dsimp only
    cases s.egr.shadow <;> rfl
  · show execEgressShadowDiscard s = _
    exact State.onMsg_of_takeFirst _ h
  · show execQueueWrite s = _
    refine Eq.trans (State.onMsg_of_takeFirst _ h) ?_
    dsimp only
    cases s.egr.shadow <;> rfl
  · show execEgressEntryRead u p c s = _
    refine Eq.trans (State.onMsg_of_takeFirst _ h) ?_
    unfold Egress.limitAnswer
    dsimp only
    rw [Egress.limits_get]
    cases b <;> cases s.egr.shadow <;> rfl

/-! ## Counters and restarts -/

theorem Admission.createCount_eq (a : Admission) (k : Key) (d : Direction) :
    a.createCount k d = { a with
      counts := if a.counts.any (fun c => decide (c.key = k ∧ c.dir = d)) then a.counts
        else a.counts ++ [{ key := k, dir := d, overRate := 0, noBuffer := 0 }] } := by
  have hany : a.hasCount k d = a.counts.any fun c => decide (c.key = k ∧ c.dir = d) := rfl
  unfold Admission.createCount
  rw [hany]
  split <;> rfl

/-- Settles O42. -/
theorem admissionCountersAndRestarts : Obligations.AdmissionCountersAndRestarts := by
  refine fun s rest => ⟨fun k d clear h => ?_, fun who k => ?_, fun h => ?_, fun h => ?_⟩
  · have hexec : exec .admissionCounterRead s = execAdmissionCounterRead s := rfl
    rw [hexec, show execAdmissionCounterRead s = _ from State.onMsg_of_takeFirst _ h]
    dsimp only
    refine ⟨fun hown => ?_, fun hown => ?_⟩
    · rw [if_pos hown]
      cases clear <;> rfl
    · rw [if_neg hown]
      cases clear with
      | true =>
        simp only [true_and]
        rfl
      | false =>
        simp only [Bool.false_eq_true, false_and, if_false, List.map_id']
        rfl
  · intro d
    refine ⟨fun h => ?_, fun h => ?_⟩
    · show execCounterEntryCreate who k s = _
      simp only [execCounterEntryCreate, h, State.took, List.append_nil]
      rw [Admission.createCount_eq]
      rfl
    · show execCounterEntryDelete who k s = _
      simp only [execCounterEntryDelete, h, State.took, List.append_nil]
      rfl
  · show execAdmissionTrafficRestart s = _
    exact State.onMsg_of_takeFirst _ h
  · show execAdmissionFullRestart s = _
    exact State.onMsg_of_takeFirst _ h

end Sys2Proof.Machine
end

section
set_option Elab.async false
/-! The replicator, command by command (R118 to R132, R208). -/

namespace Sys2Proof.Machine

/-! ## Reconciliation and links -/

/-- A condition on an empty list, as the model and as the statements write it. -/
theorem ite_isEmpty {α β : Type} [DecidableEq α] (l : List α)
    (x y : β) : (if l.isEmpty then x else y) = if l = [] then x else y := by
  cases l <;> rfl

/-- Settles O43. -/
theorem replicatorReconcilesAndFollowsLinks : Obligations.ReplicatorReconcilesAndFollowsLinks := by
  refine ⟨fun s g cs l rest h => ?_, fun s e es hpending hhand hwaiting => ?_, fun s l st rest h => ?_⟩
  · intro concerned
    show execReplicatorReconciliationRequest s = _
    simp only [execReplicatorReconciliationRequest, h]
    cases hhand : s.rep.hand with
    | some w => rfl
    | none =>
      simp only [Option.isSome_none, Bool.false_eq_true, if_false, State.repRequest, ite_isEmpty, hhand]
      rfl
  · have hexec : exec .replicatorReconcileKey s = .next (s.repStep e) := by
      show execReplicatorReconcileKey s = _
      simp only [execReplicatorReconcileKey, hpending, hhand, hwaiting, Option.isSome_none, Bool.or_false, Bool.false_eq_true,
        if_false]
    intro rest fin others
    rw [hexec]
    refine ⟨fun hcat => ?_, fun d f hcat hfields => ?_, fun d f hcat hfields => ?_⟩
    · have hstep : s.repReconcile e = s.repRemoved e.key := by simp only [State.repReconcile, hcat]
      simp only [State.repStep, hstep, ite_isEmpty]
      rfl
    · have hstep : s.repReconcile e = s.repAdded e.key { f with policer := d.policer, pool := d.pool, cls := d.cls } := by
        simp only [State.repReconcile, hcat, outParamsOf, hfields]
      simp only [State.repStep, hstep, ite_isEmpty]
      rfl
    · have hstep : s.repReconcile e =
          s.repOtherChanged e.key { f with policer := d.policer, pool := d.pool, cls := d.cls } := by
        simp only [State.repReconcile, hcat, outParamsOf, hfields]
      simp only [State.repStep, hstep, ite_isEmpty]
      rfl
  · show execReplicatorLinkChange l s = _
    simp only [State.took, List.append_nil]
    exact State.onMsg_of_takeFirst _ h

/-! ## Taking work -/

theorem Replicator.takesEntry_iff (r : Replicator) (g : Gen) :
    r.takesEntry g = true ↔ r.hand = none ∧ r.requestWaiting = false ∧ r.handoff = none ∧ g ≠ r.gen + 1 := by
  simp [Replicator.takesEntry, and_assoc]

theorem Replicator.pendingAllows_iff (r : Replicator) (k : Key) :
    r.pendingAllows k = true ↔ r.pending = [] ∨ ∃ e ∈ r.pending, e.key = k := by
  simp [Replicator.pendingAllows]

/-- Settles O44. -/
theorem replicatorTakesWork : Obligations.ReplicatorTakesWork := by
  refine ⟨fun s d rest hqueue hwait => ?_, fun s d rest hqueue hwait => ?_, fun s => ⟨fun hqueue => ?_, fun hqueue => ?_, fun hwait => ?_⟩,
    fun s g => s.rep.takesEntry_iff g, fun s d rest hqueue htakes hallows => ?_, fun s d rest hqueue htakes hpending => ?_,
    fun s h hhandoff hhand hwaiting hpending => ?_⟩
  · show execTakeDirectoryDeparture s = _
    have hno : ¬ (s.rep.takesEntry d.gen && s.rep.pendingAllows d.key) = true := by
      rw [Bool.and_eq_true, Replicator.pendingAllows_iff]
      rintro ⟨htakes, hallows⟩
      obtain hwait | ⟨hne, hall⟩ := hwait
      · cases hwait.symm.trans htakes
      · exact hallows.elim hne fun ⟨e, he, hk⟩ => hall e he hk
    simp only [execTakeDirectoryDeparture, hqueue, if_neg hno]
  · show execTakeUnknownDeparture s = _
    have hno : ¬ (s.rep.takesEntry d.gen && s.rep.pending.isEmpty) = true := by
      rw [Bool.and_eq_true, List.isEmpty_iff]
      rintro ⟨htakes, hempty⟩
      exact hwait.elim (fun hwait => nomatch hwait.symm.trans htakes) fun hne => hne hempty
    simp only [execTakeUnknownDeparture, hqueue, if_neg hno]
  · show execTakeDirectoryDeparture s = _
    unfold execTakeDirectoryDeparture
    split
    · rename_i d rest hq
      exact absurd hq (hqueue d rest)
    · rfl
  · show execTakeUnknownDeparture s = _
    unfold execTakeUnknownDeparture
    split
    · rename_i d rest hq
      exact absurd hq (hqueue d rest)
    · rfl
  · show execTakeHandoff s = _
    unfold execTakeHandoff
    split
    · rename_i h hh
      have hno : ¬ (s.rep.hand.isNone && !s.rep.requestWaiting && s.rep.pending.isEmpty) = true := by
        simp only [Bool.and_eq_true, Option.isNone_iff_eq_none, Bool.not_eq_true', List.isEmpty_iff]
        rintro ⟨⟨hhand, hwaiting⟩, hpending⟩
        obtain hnone | hne | htrue | hne := hwait
        · cases hnone.symm.trans hh
        · exact hne hhand
        · cases htrue.symm.trans hwaiting
        · exact hne hpending
      rw [if_neg hno]
    · rfl
  · have hyes : (s.rep.takesEntry d.gen && s.rep.pendingAllows d.key) = true := by
      rw [htakes, (s.rep.pendingAllows_iff d.key).mpr hallows]
      rfl
    intro s0 s1
    show execTakeDirectoryDeparture s = _
    have htake : (s.repBegin rest).takeDeparture d = match s1.rep.find d.key with
        | none => { s1 with rep := { s1.rep with withdrawn := bump s1.rep.withdrawn } }
        | some st =>
          { s1 with
            rep := { s1.rep with hand := some { job := .directory d st.params, ref := none, waiting := [], placed := 0 } },
            net := s1.net ++
              [.grant { who := .replicator, hand := s1.rep.handNo, stream := some d.key, len := d.len + 4,
                        policer := st.params.policer, pool := st.params.pool }] } := rfl
    simp only [execTakeDirectoryDeparture, hqueue, if_pos hyes, htake] <;> rfl
  · have hyes : (s.rep.takesEntry d.gen && s.rep.pending.isEmpty) = true := by rw [htakes, hpending]; rfl
    intro lane
    show execTakeUnknownDeparture s = _
    have hlane : (s.repBegin rest).rep.chooseLane = lane := rfl
    simp only [execTakeUnknownDeparture, hqueue, if_pos hyes, State.takeUnknownDeparture, hlane]
    cases lane <;> rfl
  · have hyes : (s.rep.hand.isNone && !s.rep.requestWaiting && s.rep.pending.isEmpty) = true := by
      rw [hhand, hwaiting, hpending]
      rfl
    show execTakeHandoff s = _
    simp only [execTakeHandoff, hhandoff, if_pos hyes]
    rfl

/-! ## Grants, stamps and copies -/

/-- The counters with a refused copy counted for each lane of a list (R125). -/
def OutCounts.refuseAll (c : OutCounts) (ls : List Lane) : OutCounts :=
  { c with
    refused :=
      ⟨if ls.contains .l0 then bump c.refused.l0 else c.refused.l0,
        if ls.contains .l1 then bump c.refused.l1 else c.refused.l1⟩ }

/-- The lanes of a mask with a link state, each once. -/
theorem Replicator.lanesWith_eq (r : Replicator) (m : OutFields) (st : Link) :
    r.lanesWith m st = (if m.l0 = true ∧ r.links.l0 = st then [.l0] else []) ++
      (if m.l1 = true ∧ r.links.l1 = st then [.l1] else []) := by
  simp only [Replicator.lanesWith, Bool.and_eq_true, beq_iff_eq]

theorem Replicator.foldl_refuse_lanesWith (r : Replicator) (m : OutFields) (st : Link) (c : OutCounts) :
    (r.lanesWith m st).foldl OutCounts.refuse c = c.refuseAll (r.lanesWith m st) := by
  rw [Replicator.lanesWith_eq]
  by_cases h0 : m.l0 = true ∧ r.links.l0 = st <;> by_cases h1 : m.l1 = true ∧ r.links.l1 = st <;>
    simp only [h0, h1, and_self, if_true, if_false] <;> rfl

/-- The stream that a lookup finds is the only one of its key (R118). -/
theorem Replicator.eq_of_find {r : Replicator} {k : Key} {st x : OutStream} (hkeys : (r.streams.map (·.key)).Nodup)
    (hfind : r.find k = some st) (hx : x ∈ r.streams) (hk : x.key = k) : x = st := by
  obtain ⟨hst, hstk⟩ := Replicator.find_some hfind
  exact List.inj_on_of_nodup_map hkeys hx hst (hk.trans hstk.symm)

theorem Replicator.upd_congr {r : Replicator} {k : Key} {st : OutStream} {f g : OutStream → OutStream}
    (hkeys : (r.streams.map (·.key)).Nodup) (hfind : r.find k = some st) (hfg : f st = g st) : r.upd k f = r.upd k g := by
  simp only [Replicator.upd]
  congr 1
  refine List.map_congr_left fun x hx => ?_
  by_cases hk : x.key = k
  · obtain rfl := Replicator.eq_of_find hkeys hfind hx hk
    simp only [hk, if_true, hfg]
  · simp only [hk, if_false]

/-- The work in hand asks its frame onto the lanes, or ends without any (R125, R126, R128). -/
theorem State.repEnqueue_eq (s : State) (j : RepJob) (ref : FrameRef) (c : Sys2Proof.Class) (marked : Bool) (up : List Lane) :
    s.repEnqueue j ref c marked up =
      { s with
        rep := { s.rep with
          hand := if up = [] then none else some { job := j, ref := some ref, waiting := up, placed := 0 } },
        net := s.net ++ (if up = [] then
            .release ref :: (match j with | .handoff _ => [.handoffAns (.sent ref 0)] | _ => [])
          else up.map fun l => .enqueue
            { port := lanePort l, cls := c, ref := ref, mark := if marked then some l else none, strip := false,
              tag := .lane s.rep.handNo l }) } := by
  cases up <;> rfl

theorem State.repGrantAnswer_late {s : State} {n : Nat} (h : s.rep.hand = none ∨ n ≠ s.rep.handNo) (r : GrantResult) :
    s.repGrantAnswer n r = s.send (lateGrant r) := by
  unfold State.repGrantAnswer
  split
  · rename_i hhand
    rw [if_neg (h.resolve_left (by simp [hhand]))]
  · rfl

theorem State.repReserveAnswer_late {s : State} {n : Nat} (h : s.rep.hand = none ∨ n ≠ s.rep.handNo) (r : Option FrameRef) :
    s.repReserveAnswer n r = s.send (r.toList.map .release) := by
  unfold State.repReserveAnswer
  split
  · rename_i hhand
    rw [if_neg (h.resolve_left (by simp [hhand]))]
  · rfl

/-- A granted departure: stamped with its stream's counter, written, counted and asked onto the lanes (R124, R125). -/
theorem State.grantedDeparture_eq {s : State} {d : DirDeparture} {p : OutParams} {ref : FrameRef} {st : OutStream}
    (hfind : s.rep.find d.key = some st) (hkeys : (s.rep.streams.map (·.key)).Nodup) :
    s.grantedDeparture d p ref =
      ((s.writeFrame ref (stampFrame d.buf st.counter.nxt st.counter.restart)).withRep
        (s.rep.upd d.key fun x =>
          { x with
            counter := { nxt := st.counter.nxt + 1, restart := false },
            counts := { x.counts with sent := bump x.counts.sent }.refuseAll (s.rep.lanesWith p.toOutFields .down) })).repEnqueue
        (.directory d p) ref (p.cls.queue d.cls) true (s.rep.lanesWith p.toOutFields .up) := by
  simp only [State.grantedDeparture, hfind, Replicator.foldl_refuse_lanesWith]
  have hupd := Replicator.upd_congr hkeys hfind (f := fun x : OutStream =>
      { x with
        counter := x.counter.stamped,
        counts := { x.counts with sent := bump x.counts.sent }.refuseAll (s.rep.lanesWith p.toOutFields .down) })
    (g := fun x : OutStream =>
      { x with
        counter := { nxt := st.counter.nxt + 1, restart := false },
        counts := { x.counts with sent := bump x.counts.sent }.refuseAll (s.rep.lanesWith p.toOutFields .down) }) rfl
  have hrep : (s.writeFrame ref (stampFrame d.buf st.counter.nxt st.counter.restart)).rep = s.rep := rfl
  rw [hrep, hupd]
  rfl

/-- A granted handoff: stamped with the reply stream's counter, written, counted and asked onto the lanes (R128). -/
theorem State.grantedHandoff_eq (s : State) (h : Handoff) (ref : FrameRef) :
    s.grantedHandoff h ref =
      ((s.writeFrame ref (stampFrame h.bytes s.rep.reply.nxt s.rep.reply.restart)).withRep
        { s.rep with
          reply := { nxt := s.rep.reply.nxt + 1, restart := false },
          replyCounts := { s.rep.replyCounts with sent := bump s.rep.replyCounts.sent }.refuseAll
            (s.rep.lanesWith replyMask .down) }).repEnqueue
        (.handoff h) ref (frameClass h.bytes) true (s.rep.lanesWith replyMask .up) := by
  simp only [State.grantedHandoff, Replicator.foldl_refuse_lanesWith]
  rfl

/-- Settles O45. -/
theorem replicatorStampsGrantedFrames : Obligations.ReplicatorStampsGrantedFrames := by
  have hgrant {s : State} {rest : List Msg} {n : Nat} {r : GrantResult}
      (h : takeFirst (selGrantAns .replicator) s.net = some ((n, r), rest)) :
      exec .replicatorGrantAnswer s = .next (State.repGrantAnswer { s with net := rest } n r) := by
    show execReplicatorGrantAnswer s = _
    exact State.onMsg_of_takeFirst _ h
  have hreserve {s : State} {rest : List Msg} {n : Nat} {r : Option FrameRef}
      (h : takeFirst (selReserveAns .replicator) s.net = some ((n, r), rest)) :
      exec .replicatorReserveGrantAnswer s = .next (State.repReserveAnswer { s with net := rest } n r) := by
    show execReplicatorReserveGrantAnswer s = _
    exact State.onMsg_of_takeFirst _ h
  refine ⟨fun s rest n hlate => ⟨fun r h => ?_, fun r h => ?_⟩, fun s rest w hhand href => ?_⟩
  · rw [hgrant h, State.repGrantAnswer_late (s := { s with net := rest }) hlate]
    cases r <;> rfl
  · rw [hreserve h, State.repReserveAnswer_late (s := { s with net := rest }) hlate]
    cases r <;> rfl
  · intro lanes refused ask written
    obtain ⟨job, ref, waiting, placed⟩ := w
    obtain rfl : ref = none := href
    have hlanes (m : OutFields) (st : Link) : s.rep.lanesWith m st = lanes m.l0 m.l1 st := s.rep.lanesWith_eq m st
    refine ⟨fun d p st ref hjob hfind hkeys h => ?_, fun d l ref hjob h => ?_, fun r h hr => ?_, fun x ref hjob h => ?_,
      fun x hjob h => ?_⟩
    · obtain rfl : job = .directory d p := hjob
      have hanswer : State.repGrantAnswer { s with net := rest } s.rep.handNo (.granted ref) =
          State.grantedDeparture { s with net := rest } d p ref := by
        simp only [State.repGrantAnswer, hhand, if_true]
      rw [hgrant h, hanswer, State.grantedDeparture_eq (s := { s with net := rest }) hfind hkeys, State.repEnqueue_eq]
      dsimp only
      rw [hlanes, hlanes]
      rfl
    · obtain rfl : job = .unknown d l := hjob
      rw [hgrant h]
      simp only [State.repGrantAnswer, hhand, if_true, State.grantedUnknownDeparture, State.repEnqueue_eq]
      rfl
    · rw [hgrant h]
      simp only [State.took, List.append_nil]
      obtain rfl | rfl := hr <;> simp only [State.repGrantAnswer, hhand, if_true] <;> rfl
    · obtain rfl : job = .handoff x := hjob
      rw [hreserve h]
      have hanswer : State.repReserveAnswer { s with net := rest } s.rep.handNo (some ref) =
          State.grantedHandoff { s with net := rest } x ref := by
        simp only [State.repReserveAnswer, hhand, if_true]
      rw [hanswer, State.grantedHandoff_eq, State.repEnqueue_eq]
      dsimp only
      rw [hlanes, hlanes]
      rfl
    · obtain rfl : job = .handoff x := hjob
      rw [hreserve h]
      simp only [State.repReserveAnswer, hhand, if_true]
      rfl

/-! ## Answers of the lanes, reads and restarts -/

/-- The counters of a job's stream after a refused copy on a lane (R125, R128). -/
theorem Replicator.countFor_refuse (r : Replicator) (j : RepJob) (l : Lane) :
    r.countFor j (fun c => c.refuse l) = match j with
      | .directory d _ => r.upd d.key fun st =>
        { st with counts := { st.counts with refused := st.counts.refused.set l (bump (st.counts.refused.get l)) } }
      | .unknown _ _ => r
      | .handoff _ =>
        { r with
          replyCounts :=
            { r.replyCounts with refused := r.replyCounts.refused.set l (bump (r.replyCounts.refused.get l)) } } := by
  cases j <;> rfl

theorem State.repEnqueueAnswer_late {s : State} {l : Lane} {n : Nat} (h : s.rep.hand = none ∨ n ≠ s.rep.handNo)
    (ref : FrameRef)
    (r : EnqResult) : s.repEnqueueAnswer l n ref r = s.repLateAnswer l n ref := by
  unfold State.repEnqueueAnswer
  split
  · rename_i hhand
    rw [if_neg (h.resolve_left (by simp [hhand]))]
  · rfl

theorem Replicator.lateAfter_eq (r : Replicator) :
    r.lateAfter = r.late ++ match r.hand with
      | some w => w.ref.toList.map fun own => { hand := r.handNo, ref := own, waiting := w.waiting }
      | none => [] := by
  unfold Replicator.lateAfter
  cases r.hand with
  | none => exact (List.append_nil _).symm
  | some w =>
    obtain ⟨job, ref, waiting, placed⟩ := w
    cases ref with
    | none => exact (List.append_nil _).symm
    | some own => rfl

/-- Whether the work in hand is a handoff. -/
def Replicator.handoffInHand (r : Replicator) : Bool :=
  match r.hand with
  | some w => (match w.job with | .handoff _ => true | _ => false)
  | none => false

theorem Replicator.abandoned_eq (r : Replicator) :
    r.abandoned = if r.handoff.isSome = true ∨ r.handoffInHand = true then [.handoffAns .abandoned] else [] := by
  unfold Replicator.abandoned Replicator.handoffInHand
  cases r.hand with
  | none => cases r.handoff <;> rfl
  | some w =>
    obtain ⟨job, ref, waiting, placed⟩ := w
    cases job with
    | handoff h => simp
    | directory d p => cases r.handoff <;> rfl
    | unknown d l => cases r.handoff <;> rfl

/-- Settles O46. -/
theorem replicatorEndsWorkAndRestarts : Obligations.ReplicatorEndsWorkAndRestarts := by
  refine fun s rest => ⟨fun l n ref r h => ?_, fun k d clear h => ?_, fun clear h => ?_, ?_⟩
  · have hexec : exec (.replicatorEnqueueAnswer l) s = .next (State.repEnqueueAnswer { s with net := rest } l n ref r) := by
      show execReplicatorEnqueueAnswer l s = _
      exact State.onMsg_of_takeFirst _ h
    refine ⟨fun w own hhand href hn => ?_, fun hlate => ?_⟩
    · obtain ⟨job, own', waiting, placed⟩ := w
      obtain rfl : own' = some own := href
      subst hn
      rw [hexec]
      simp only [State.repEnqueueAnswer, hhand, if_true, ite_isEmpty, Replicator.countFor_refuse, State.took, List.append_nil]
      by_cases hleft : waiting.erase l = []
      · rw [if_pos hleft, if_pos hleft]
        cases job <;> rfl
      · rw [if_neg hleft, if_neg hleft]
        cases job <;> rfl
    · rw [hexec, State.repEnqueueAnswer_late (s := { s with net := rest }) hlate]
      simp only [State.repLateAnswer, ite_isEmpty, State.took, List.append_nil]
      cases s.rep.late.find? fun x => x.hand == n with
      | none => rfl
      | some x =>
        by_cases hleft : x.waiting.erase l = []
        · have hfilter : (s.rep.late.filter fun y => !(y.hand == n)) = s.rep.late.filter fun y => decide (y.hand ≠ n) :=
            List.filter_congr fun y _ => by by_cases hy : y.hand = n <;> simp [hy]
          simp only [hleft, if_true, hfilter]
          rfl
        · simp only [hleft, if_false]
          rfl
  · show execReplicatorCounterRead s = _
    refine Eq.trans (State.onMsg_of_takeFirst _ h) ?_
    dsimp only
    by_cases hown : k = ownReplyKey s.node
    · rw [if_pos hown, if_pos hown]
      cases clear <;> rfl
    · rw [if_neg hown, if_neg hown]
      cases s.rep.find k with
      | none => rfl
      | some st => cases clear <;> rfl
  · show execReplicatorCounterRead s = _
    refine Eq.trans (State.onMsg_of_takeFirst _ h) ?_
    cases clear <;> rfl
  · have hlate := s.rep.lateAfter_eq
    have hdropped := s.rep.abandoned_eq
    refine ⟨fun h => ?_, fun h => ?_⟩
    · show execReplicatorTrafficRestart s = _
      refine Eq.trans (State.onMsg_of_takeFirst _ h) ?_
      dsimp only
      rw [Replicator.trafficRestart, hlate, hdropped]
      rfl
    · show execReplicatorFullRestart s = _
      refine Eq.trans (State.onMsg_of_takeFirst _ h) ?_
      dsimp only
      rw [hlate, hdropped]
      rfl

end Sys2Proof.Machine
end

section
set_option Elab.async false
/-! The merge engine, command by command (R50 to R93, R197 to R201). -/

namespace Sys2Proof.Machine

/-! ## Taking entries -/

theorem State.mergeTakes_iff (s : State) (g : Gen) :
    s.mergeTakes g = true ↔ s.mrg.hand = none ∧ (∀ e ∈ s.mrg.deferred, s.mergeWaits e = false) ∧ g ≠ s.mrg.gen + 1 := by
  simp [State.mergeTakes, and_assoc]

/-- Settles O32. -/
theorem mergeEngineTakesArrivals : Obligations.MergeEngineTakesArrivals := by
  refine ⟨fun s e rest hqueue htakes => ?_, fun s e e' rest hqueue hne => ?_, fun s g => s.mergeTakes_iff g,
    fun s a rest hqueue htakes => ?_, fun s a rest hqueue htakes => ?_, fun s a rest hqueue htakes => ?_⟩
  · have hno : ¬ s.mergeTakes e.gen = true := by simp [htakes]
    refine ⟨?_, ?_, ?_⟩
    · show execTakeDirectoryArrival s = _
      cases e with
      | directory a => simp only [execTakeDirectoryArrival, hqueue]; exact if_neg hno
      | unknown a => simp only [execTakeDirectoryArrival, hqueue]
      | management a => simp only [execTakeDirectoryArrival, hqueue]
    · show execTakeUnknownArrival s = _
      cases e with
      | directory a => simp only [execTakeUnknownArrival, hqueue]
      | unknown a => simp only [execTakeUnknownArrival, hqueue]; exact if_neg hno
      | management a => simp only [execTakeUnknownArrival, hqueue]
    · show execTakeManagementArrival s = _
      cases e with
      | directory a => simp only [execTakeManagementArrival, hqueue]
      | unknown a => simp only [execTakeManagementArrival, hqueue]
      | management a => simp only [execTakeManagementArrival, hqueue]; exact if_neg hno
  · cases e' with
    | directory a' =>
      show execTakeDirectoryArrival s = _
      cases e with
      | directory a => exact absurd rfl hne
      | unknown a => simp only [execTakeDirectoryArrival, hqueue]
      | management a => simp only [execTakeDirectoryArrival, hqueue]
    | unknown a' =>
      show execTakeUnknownArrival s = _
      cases e with
      | directory a => simp only [execTakeUnknownArrival, hqueue]
      | unknown a => exact absurd rfl hne
      | management a => simp only [execTakeUnknownArrival, hqueue]
    | management a' =>
      show execTakeManagementArrival s = _
      cases e with
      | directory a => simp only [execTakeManagementArrival, hqueue]
      | unknown a => simp only [execTakeManagementArrival, hqueue]
      | management a => exact absurd rfl hne
  · intro s0 s1
    have htake : execTakeDirectoryArrival s = .next ((s.mergeBegin rest).takeDirectory a) := by
      simp only [execTakeDirectoryArrival, hqueue]
      exact if_pos htakes
    show execTakeDirectoryArrival s = _
    have hs1 : (s.mergeBegin rest).takeDirectory a = match s1.mrg.find a.key with
        | none => s1.withMrg { s1.mrg with withdrawn := bump s1.mrg.withdrawn }
        | some st => s1.judgeDirectory st a := rfl
    rw [htake, hs1]
    cases s1.mrg.find a.key with
    | none => rfl
    | some st =>
      simp only [State.judgeDirectory]
      cases (judge st.params.window st.params.rogue st.recov st.counts a.seq a.restart).judged <;> rfl
  · show execTakeUnknownArrival s = _
    simp only [execTakeUnknownArrival, hqueue]
    exact if_pos htakes
  · intro j m ms
    have htake : execTakeManagementArrival s = .next ((s.mergeBegin rest).takeManagement a) := by
      simp only [execTakeManagementArrival, hqueue]
      exact if_pos htakes
    show execTakeManagementArrival s = _
    rw [htake]
    have hjudge : (s.mergeBegin rest).takeManagement a = match j.judged with
        | .candidate v =>
          { s with
            mrg := { m with hand := some (.management a v) },
            net := s.net ++ ms ++
              [.placement (s.mrg.handNo + 1) { side := lanePort a.lane, len := payloadLen a.buf, buf := a.buf }] }
        | _ => { s with mrg := m, net := s.net ++ ms } := by
      simp only [State.takeManagement] <;> rfl
    rw [hjudge] <;> cases j.judged <;> rfl

/-! ## Answers -/

/-- The grant answer of a handling that is over only returns the blocks granted (R75). -/
theorem State.mergeGrantAnswer_late {s : State} {n : Nat} (hlate : s.mrg.hand = none ∨ n ≠ s.mrg.handNo)
    (r : GrantResult) : s.mergeGrantAnswer n r = s.send (lateGrant r) := by
  cases hhand : s.mrg.hand with
  | none => simp only [State.mergeGrantAnswer, hhand]
  | some h =>
    have hne : ¬ n = s.mrg.handNo := hlate.resolve_left (by simp [hhand])
    cases h with
    | directory a v ref => cases ref <;> simp [State.mergeGrantAnswer, hhand, hne]
    | unknown a ref => cases ref <;> simp [State.mergeGrantAnswer, hhand, hne]
    | management a v => simp only [State.mergeGrantAnswer, hhand]

/-- Settles O33. -/
theorem mergeEngineTakesGrantAnswers : Obligations.MergeEngineTakesGrantAnswers := by
  intro s n r rest h
  have htake : execMergeGrantAnswer s = .next (State.mergeGrantAnswer { s with net := rest } n r) :=
    State.onMsg_of_takeFirst _ h
  refine ⟨fun a v hhand hn => ?_, fun a hhand hn => ?_, fun hlate => ?_⟩
  · show execMergeGrantAnswer s = _
    rw [htake]
    simp only [State.mergeGrantAnswer, hhand, if_pos hn]
    cases r with
    | overRate => simp only [State.took, List.append_nil] <;> rfl
    | noBuffer => simp only [State.took, List.append_nil] <;> rfl
    | granted ref =>
      simp only [State.grantedDirectory]
      cases hfind : s.mrg.find a.key with
      | none =>
        simp only [State.writeFrame, hfind] <;> rfl
      | some st =>
        simp only [State.writeFrame, hfind]
        by_cases hv : v = .hold
        · subst hv
          simp only [if_true, State.placeHold]
          by_cases hroom : s.mrg.holdInUse < 1024
          · have hroom' : Merge.holdInUse s.mrg < Config.holdEntries := hroom
            rw [if_pos hroom, if_pos hroom']
            simp only [State.recordAcceptance, (Merge.find_some hfind).2] <;> rfl
          · have hroom' : ¬ Merge.holdInUse s.mrg < Config.holdEntries := hroom
            rw [if_neg hroom, if_neg hroom', (Merge.find_some hfind).2] <;> rfl
        · rw [if_neg hv]
          cases v with
          | hold => exact absurd rfl hv
          | _ => rfl
  · show execMergeGrantAnswer s = _
    rw [htake]
    simp only [State.mergeGrantAnswer, hhand, if_pos hn]
    cases r with
    | overRate => simp only [State.took, List.append_nil] <;> rfl
    | noBuffer => simp only [State.took, List.append_nil] <;> rfl
    | granted ref => rfl
  · show execMergeGrantAnswer s = _
    rw [htake, State.mergeGrantAnswer_late (s := { s with net := rest }) hlate] <;> cases r <;> rfl

/-- Settles O34. -/
theorem mergeEngineTakesPlacementAnswers : Obligations.MergeEngineTakesPlacementAnswers := by
  refine ⟨fun s ref r rest a v own st h hhand hfind => ?_, fun s ref r rest a own h hhand => ?_,
    fun s ok rest a v h hhand => ?_, fun s n rest hlate => ⟨fun ref r h => ?_, fun ok h => ?_⟩,
    fun s frame born k ref r rest h => ?_⟩
  · intro x
    show execMergePlacementAnswer s = _
    refine Eq.trans (State.onMsg_of_takeFirst _ h) ?_
    simp only [State.mergePlacementAnswer, State.send, hhand, if_true, hfind]
    cases r with
    | placed => simp only [State.recordAcceptance, (Merge.find_some hfind).2, State.took, List.cons_append,
        List.append_assoc, List.nil_append, State.mergeEnd_eq, State.withMrg, State.send] <;> rfl
    | down => rfl
    | full => rfl
    | void => rfl
  · show execMergePlacementAnswer s = _
    refine Eq.trans (State.onMsg_of_takeFirst _ h) ?_
    simp only [State.mergePlacementAnswer, State.send, hhand, if_true] <;> rfl
  · intro x c
    show execManagementPlacementAnswer s = _
    refine Eq.trans (State.onMsg_of_takeFirst _ h) ?_
    simp only [State.managementAnswer, hhand, if_true, State.took, List.append_nil]
    cases ok <;> rfl
  · show execMergePlacementAnswer s = _
    refine Eq.trans (State.onMsg_of_takeFirst _ h) ?_
    cases hhand : s.mrg.hand with
    | none => simp only [State.mergePlacementAnswer, State.send, hhand] <;> rfl
    | some hd =>
      have hne : ¬ n = s.mrg.handNo := hlate.resolve_left (by simp [hhand])
      cases hd with
      | directory a v own => cases own <;> simp only [State.mergePlacementAnswer, State.send, hhand, hne, if_false] <;> rfl
      | unknown a own => cases own <;> simp only [State.mergePlacementAnswer, State.send, hhand, hne, if_false] <;> rfl
      | management a v => simp only [State.mergePlacementAnswer, State.send, hhand] <;> rfl
  · show execManagementPlacementAnswer s = _
    refine Eq.trans (State.onMsg_of_takeFirst _ h) ?_
    cases hhand : s.mrg.hand with
    | none => simp only [State.managementAnswer, hhand, State.took, List.append_nil]
    | some hd =>
      have hne : ¬ n = s.mrg.handNo := hlate.resolve_left (by simp [hhand])
      cases hd <;> simp only [State.managementAnswer, hhand, if_neg hne, State.took, List.append_nil]
  · show execReleaseEnqueueAnswer frame s = _
    refine Eq.trans (State.onMsg_of_takeFirst _ h) ?_
    cases r <;> rfl

/-! ## Timers -/

theorem Recovery.silenceDue_iff (r : Recovery) (now : Nat) :
    r.silenceDue now = true ↔ ∃ t e, r.tracking = some t ∧ t.silence = some e ∧ e ≤ now := by
  cases htracking : r.tracking with
  | none => simp [Recovery.silenceDue, htracking]
  | some t => cases hsilence : t.silence <;> simp [Recovery.silenceDue, htracking, hsilence]

theorem Recovery.holdDue_iff (r : Recovery) (now : Nat) :
    r.holdDue now = true ↔ ∃ t o e, r.tracking = some t ∧ t.ordered = some o ∧ o.timer = some e ∧ e ≤ now := by
  cases htracking : r.tracking with
  | none => simp [Recovery.holdDue, htracking]
  | some t =>
    cases hordered : t.ordered with
    | none => simp [Recovery.holdDue, htracking, hordered]
    | some o => cases htimer : o.timer <;> simp [Recovery.holdDue, htracking, hordered, htimer]

/-- An event of the merge engine with nothing in hand is taken (R51). -/
theorem State.mergeEvent_of_idle {s : State} (hhand : s.mrg.hand = none) (e : MergeDeferred) (k : State → State) :
    s.mergeEvent e k = k (s.mergeTaken e) := by
  simp [State.mergeEvent, hhand]

/-- With an entry in hand it is deferred, once (R51). -/
theorem State.mergeEvent_of_hand {s : State} {h : MergeHand} (hhand : s.mrg.hand = some h) (e : MergeDeferred)
    (k : State → State) : s.mergeEvent e k = s.mergeDefer e := by
  simp [State.mergeEvent, hhand]

theorem State.mergeDefer_eq (s : State) (e : MergeDeferred) :
    s.mergeDefer e =
      { s with
        mrg :=
          { s.mrg with
            deferred := if s.mrg.deferred.contains e then s.mrg.deferred else s.mrg.deferred ++ [e] } } := by
  simp only [State.mergeDefer]
  cases s.mrg.deferred.contains e <;> rfl

theorem execSilenceExpiry_of_due {s : State} {k : Key} {st : Stream} (hfind : s.mrg.find k = some st)
    (hdue : st.recov.silenceDue s.clock.millis = true) :
    execSilenceExpiry (.key k) s = .next (s.mergeEvent (.silence (.key k)) fun s => s.silenceReset st) := by
  simp only [execSilenceExpiry, hfind, if_pos hdue]

theorem execHoldTimerExpiry_of_due {s : State} {k : Key} {st : Stream} (hfind : s.mrg.find k = some st)
    (hdue : st.recov.holdDue s.clock.tens = true) :
    execHoldTimerExpiry k s = .next (s.mergeEvent (.hold k) fun s => s.holdExpired st) := by
  simp only [execHoldTimerExpiry, hfind, if_pos hdue]

/-- Settles O35. -/
theorem mergeEngineTimersExpire : Obligations.MergeEngineTimersExpire := by
  unfold Obligations.MergeEngineTimersExpire
  intro past
  refine ⟨fun s k st hfind hhand => ⟨fun hdue => ?_, fun t o htracking hordered hdue => ?_⟩, fun s hdue hhand => ?_,
    fun s h hhand => ⟨fun k st hfind => ⟨fun hdue => ?_, fun hdue => ?_⟩, fun hdue => ?_⟩,
    fun s => ⟨fun k hdue => ?_, fun k hdue => ?_, fun hdue => ?_⟩, fun r now => ⟨r.silenceDue_iff now, r.holdDue_iff now⟩⟩
  · show execSilenceExpiry (.key k) s = _
    rw [execSilenceExpiry_of_due hfind hdue, State.mergeEvent_of_idle hhand, State.silenceReset, (Merge.find_some hfind).2]
      <;> rfl
  · intro x
    show execHoldTimerExpiry k s = _
    rw [execHoldTimerExpiry_of_due hfind hdue, State.mergeEvent_of_idle hhand]
    simp only [State.holdExpired, htracking, hordered, (Merge.find_some hfind).2] <;> rfl
  · show execSilenceExpiry .management s = _
    simp only [execSilenceExpiry, if_pos hdue, State.mergeEvent_of_idle hhand] <;> rfl
  · show execSilenceExpiry (.key k) s = _
    rw [execSilenceExpiry_of_due hfind hdue, State.mergeEvent_of_hand hhand, State.mergeDefer_eq]
  · show execHoldTimerExpiry k s = _
    rw [execHoldTimerExpiry_of_due hfind hdue, State.mergeEvent_of_hand hhand, State.mergeDefer_eq]
  · show execSilenceExpiry .management s = _
    simp only [execSilenceExpiry, if_pos hdue, State.mergeEvent_of_hand hhand, State.mergeDefer_eq] <;> rfl
  · show execSilenceExpiry (.key k) s = _
    cases hfind : s.mrg.find k with
    | none => simp only [execSilenceExpiry, hfind]
    | some st => simp [execSilenceExpiry, hfind, hdue st hfind]
  · show execHoldTimerExpiry k s = _
    cases hfind : s.mrg.find k with
    | none => simp only [execHoldTimerExpiry, hfind]
    | some st => simp [execHoldTimerExpiry, hfind, hdue st hfind]
  · show execSilenceExpiry .management s = _
    simp [execSilenceExpiry, hdue]

/-! ## Reconciliation -/

/-- The lowest pending key reconciled with nothing in hand (R52). -/
theorem execMergeReconcileKey_of_idle {s : State} {e : ChangeEntry} {es : List ChangeEntry}
    (hpending : s.mrg.pending = e :: es)
    (hhand : s.mrg.hand = none) : execMergeReconcileKey s = .next ((s.mergeTaken .reconcileStep).mergeStep e) := by
  simp only [execMergeReconcileKey, hpending, State.mergeEvent_of_idle hhand]

/-- With an entry in hand the step is deferred (R51). -/
theorem execMergeReconcileKey_of_hand {s : State} {e : ChangeEntry} {es : List ChangeEntry} {h : MergeHand}
    (hpending : s.mrg.pending = e :: es) (hhand : s.mrg.hand = some h) :
    execMergeReconcileKey s = .next (s.mergeDefer .reconcileStep) := by
  simp only [execMergeReconcileKey, hpending, State.mergeEvent_of_hand hhand]

/-- A pending key reconciled leaves the list, and the last one is reported, whatever its category (R52, R197). -/
theorem State.mergeStep_eq {s t : State} {e : ChangeEntry} (h : s.mergeReconcile e = t) :
    s.mergeStep e =
      { t with
        mrg := { t.mrg with pending := t.mrg.pending.filter fun x => !(x.key == e.key) },
        net := t.net ++ if (t.mrg.pending.filter fun x => !(x.key == e.key)) = [] then [.reconcileDone .merge] else [] } := by
  rw [State.mergeStep, h]
  simp only [ite_isEmpty] <;> rfl

theorem silenceAfterChange_eq (now silence : Nat) (timer : Option Nat) :
    silenceAfterChange now silence timer =
      if silence = 0 then none else if timer.isSome = true then timer else some (now + silence) := by
  cases timer <;> rfl

/-- Settles O36. -/
theorem mergeEngineReconciles : Obligations.MergeEngineReconciles := by
  refine ⟨fun s h hhand => ?_, fun s g cs l rest h hhand => ?_, fun s e es hpending hhand => ?_⟩
  · intro past
    refine ⟨fun q hq => ?_, fun hne => ?_⟩
    · show execMergeReconciliationRequest s = _
      have hbusy : s.mrg.hand.isSome = true := by rw [hhand]; rfl
      simp only [execMergeReconciliationRequest, hq, if_pos hbusy, State.mergeDefer_eq] <;> rfl
    · show execMergeReconcileKey s = _
      obtain ⟨e, es, hpending⟩ := List.exists_cons_of_ne_nil hne
      rw [execMergeReconcileKey_of_hand hpending hhand, State.mergeDefer_eq]
  · intro concerned
    show execMergeReconciliationRequest s = _
    have hidle : ¬ s.mrg.hand.isSome = true := by simp [hhand]
    have hconcerned : cs.filter s.mrg.concerns = concerned := rfl
    have hrequest : ∀ t : State, t.mrg.concerns = s.mrg.concerns → t.mergeRequest g cs =
        { t with
          mrg := { t.mrg with gen := g, pending := concerned },
          net := t.net ++ if concerned = [] then [.reconcileDone .merge] else [] } := fun t ht => by
      rw [State.mergeRequest, ht, hconcerned]
      simp only [ite_isEmpty] <;> rfl
    simp only [execMergeReconciliationRequest, h, if_neg hidle]
    rw [hrequest] <;> rfl
  · intro rest fin m
    have hexec : exec .mergeReconcileKey s = .next ((s.mergeTaken .reconcileStep).mergeStep e) :=
      execMergeReconcileKey_of_idle hpending hhand
    refine ⟨fun hcat st hfind => ?_, fun r f hcat hf => ?_, fun r f st hcat hf hfind => ?_, fun r f hcat hf => ?_⟩
    · have hfind' : Merge.find (s.mergeTaken .reconcileStep).mrg e.key = some st := hfind
      have hstep : (s.mergeTaken .reconcileStep).mergeReconcile e = (s.mergeTaken .reconcileStep).mergeRemoved e.key := by
        simp only [State.mergeReconcile, hcat]
      rw [hexec, State.mergeStep_eq hstep]
      simp only [State.mergeRemoved, hfind'] <;> rfl
    · have hparams : inParamsOf r = some { f with policer := r.policer, pool := r.pool, cls := r.cls } := by
        simp only [inParamsOf, hf]
      have hstep := State.mergeStep_eq (s := s.mergeTaken .reconcileStep) (e := e) rfl
      rw [hexec, hstep]
      simp only [State.mergeReconcile, hcat, hparams] <;> rfl
    · have hparams : inParamsOf r = some { f with policer := r.policer, pool := r.pool, cls := r.cls } := by
        simp only [inParamsOf, hf]
      have hfind' : Merge.find (s.mergeTaken .reconcileStep).mrg e.key = some st := hfind
      have hstep := State.mergeStep_eq (s := s.mergeTaken .reconcileStep) (e := e) rfl
      rw [hexec, hstep]
      simp only [State.mergeReconcile, hcat, hparams, State.mergeRecoveryChanged, hfind'] <;> rfl
    · have hparams : inParamsOf r = some { f with policer := r.policer, pool := r.pool, cls := r.cls } := by
        simp only [inParamsOf, hf]
      have hstep := State.mergeStep_eq (s := s.mergeTaken .reconcileStep) (e := e) rfl
      rw [hexec, hstep]
      simp only [State.mergeReconcile, hcat, hparams, State.mergeOtherChanged, Recovery.otherChanged,
        silenceAfterChange_eq] <;> rfl

/-! ## Reads and restarts -/

/-- Settles O37. -/
theorem mergeEngineReadsAndRestarts : Obligations.MergeEngineReadsAndRestarts := by
  intro s rest
  refine ⟨fun h => ?_, fun k d clear h => ?_, fun clear h => ?_, fun h => ?_, fun h => ?_⟩
  · show execHoldStateRead s = _
    exact State.onMsg_of_takeFirst _ h
  · show execMergeCounterRead s = _
    refine Eq.trans (State.onMsg_of_takeFirst _ h) ?_
    by_cases hown : k = ownRequestKey s.node
    · simp only [if_pos hown]
      cases clear <;> rfl
    · simp only [if_neg hown]
      cases s.mrg.find k with
      | none => rfl
      | some st => cases clear <;> rfl
  · show execMergeCounterRead s = _
    refine Eq.trans (State.onMsg_of_takeFirst _ h) ?_
    cases clear <;> rfl
  · show execMergeTrafficRestart s = _
    exact State.onMsg_of_takeFirst _ h
  · show execMergeFullRestart s = _
    exact State.onMsg_of_takeFirst _ h

end Sys2Proof.Machine
end

section
set_option Elab.async false
/-! Requests at the agent: their tests, in order, and what each does (R10 to R14, R155 to R173, R180 to R192). -/

namespace Sys2Proof.Machine

/-! ## Well-formed requests -/

theorem findIdx?_not_of_split {α : Type} {P : α → Bool} {pre post : List α} {x : α} (hpre : ∀ y ∈ pre, P y = true)
    (hx : P x = false) : (pre ++ x :: post).findIdx? (fun y => !P y) = some pre.length := by
  induction pre with
  | nil => simp [List.findIdx?_cons, hx]
  | cons y pre ih =>
    have hy : P y = true := hpre y List.mem_cons_self
    simp [List.findIdx?_cons, hy, ih fun z hz => hpre z (List.mem_cons_of_mem y hz)]

theorem findIdx?_not_eq_none {α : Type} {P : α → Bool} {l : List α} :
    l.findIdx? (fun y => !P y) = none ↔ ∀ y ∈ l, P y = true := by
  simp [List.findIdx?_eq_none_iff]

/-- The fixed bytes of a request of kind `k` are as R12 asks. -/
structure FixedOk (k : ReqKind) (p : List Byte) : Prop where
  table : tableOk k (reqTable p) = true
  count : countOk k (reqTable p) (reqCount p) = true
  length : p.length = requestLength k (reqTable p) (reqCount p)

/-- With the fixed bytes right, the entries decide (R13). -/
theorem malformedKind_of_fixedOk {k : ReqKind} {p : List Byte} (h : FixedOk k p) :
    malformedKind k p =
      match (requestEntries k p).findIdx? (fun e => !rangeOk k (reqTable p) e) with
      | some i => some (.fieldRange, i)
      | none => match (requestEntries k p).findIdx? (fun e => !keyOk k (reqTable p) e) with
        | some i => some (.zeroKey, i)
        | none => match (requestEntries k p).findIdx? (fun e => !fillOk k (reqTable p) e) with
          | some i => some (.nonzeroFill, i)
          | none => if reqToken p = 0 then some (.zeroToken, 0) else none := by
  obtain ⟨htable, hcount, hlength⟩ := h
  simp only [malformedKind, htable, hcount, hlength, bne_self_eq_false, Bool.and_false, Bool.not_true,
    Bool.false_eq_true, if_false] <;> rfl

theorem malformedKind_of_table {k : ReqKind} {p : List Byte} (h : tableOk k (reqTable p) = false) :
    malformedKind k p = some (.tableMismatch, 0) := by
  simp [malformedKind, h]

theorem malformedKind_of_count {k : ReqKind} {p : List Byte} (htable : tableOk k (reqTable p) = true)
    (h : countOk k (reqTable p) (reqCount p) = false) : malformedKind k p = some (.countRange, 0) := by
  simp [malformedKind, htable, h]

theorem malformedKind_of_length {k : ReqKind} {p : List Byte} (htable : tableOk k (reqTable p) = true)
    (hcount : countOk k (reqTable p) (reqCount p) = true) (h : p.length ≠ requestLength k (reqTable p) (reqCount p)) :
    malformedKind k p = some (.short, 0) := by
  simp [malformedKind, htable, hcount, h]

theorem FixedOk.of_malformedKind {k : ReqKind} {p : List Byte} (h : malformedKind k p = none) : FixedOk k p := by
  have htable : tableOk k (reqTable p) = true := by
    by_contra hno
    cases h.symm.trans (malformedKind_of_table (Bool.eq_false_of_not_eq_true hno))
  have hcount : countOk k (reqTable p) (reqCount p) = true := by
    by_contra hno
    cases h.symm.trans (malformedKind_of_count htable (Bool.eq_false_of_not_eq_true hno))
  refine ⟨htable, hcount, ?_⟩
  by_contra hno
  cases h.symm.trans (malformedKind_of_length htable hcount hno)

/-- A request that parses has a kind of R12, its fixed bytes are right and every entry lies in its ranges. -/
theorem parseRequest_ok {p : List Byte} {r : Req} (h : parseRequest p = .ok r) :
    ∃ k, 9 ≤ p.length ∧ reqKindOf (reqKindCode p) = some k ∧ FixedOk k p ∧
      (∀ e ∈ requestEntries k p, rangeOk k (reqTable p) e = true) ∧ r = decodeOperands k p := by
  have hlength := parseRequest_length h
  have hlong : ¬ p.length < 9 := by omega
  simp only [parseRequest, if_neg hlong] at h
  cases hkind : reqKindOf (reqKindCode p) with
  | none => simp [hkind] at h
  | some k =>
    simp only [hkind] at h
    cases hbad : malformedKind k p with
    | some e => simp [hbad] at h
    | none =>
      simp only [hbad] at h
      have hfixed := FixedOk.of_malformedKind hbad
      rw [malformedKind_of_fixedOk hfixed] at hbad
      refine ⟨k, hlength, rfl, hfixed, findIdx?_not_eq_none.mp ?_, (Except.ok.inj h).symm⟩
      cases hrange : (requestEntries k p).findIdx? fun e => !rangeOk k (reqTable p) e with
      | none => rfl
      | some i => simp [hrange] at hbad

/-- The first operand byte. -/
theorem natAt_slice_first (p : List Byte) (n : Nat) : natAt (slice p 9 (n + 1)) 0 1 = (byteAt p 9).toNat := by
  have hbyte : byteAt p 9 = (p.drop 9).getD 0 0 := by simp [byteAt]
  rw [hbyte]
  simp only [natAt, slice, List.drop_zero]
  cases p.drop 9 with
  | nil => rfl
  | cons b bs => simp [beNat]

/-- A well-formed request's row is that of the request it decodes to. -/
theorem requestRow_of_parse {p : List Byte} {r : Req} (h : parseRequest p = .ok r) : requestRow p = rowOf r := by
  obtain ⟨k, hlength, hkind, ⟨htable, hcount, -⟩, hrange, rfl⟩ := parseRequest_ok h
  have hlong : ¬ p.length < 7 := by omega
  have htables : ∀ t, 1 ≤ t → t ≤ 5 → t = 1 ∨ t = 2 ∨ t = 3 ∨ t = 4 ∨ t = 5 := by omega
  simp only [requestRow, if_neg hlong, hkind]
  cases k with
  | put =>
    simp only [tableOk, Bool.and_eq_true, decide_eq_true_eq] at htable
    obtain ht | ht | ht | ht | ht := htables _ htable.1 htable.2 <;> simp only [decodeOperands, ht] <;> rfl
  | read =>
    simp only [tableOk, Bool.and_eq_true, decide_eq_true_eq] at htable
    obtain ht | ht | ht | ht | ht := htables _ htable.1 htable.2 <;> simp only [decodeOperands, ht] <;> rfl
  | readStats =>
    have hfirst : natAt (operandArea .readStats p) 0 1 = (byteAt p 9).toNat := natAt_slice_first p 5
    have hscope : 1 ≤ (byteAt p 9).toNat ∧ (byteAt p 9).toNat ≤ 3 := by
      have hr := hrange (operandArea .readStats p) (List.mem_singleton.mpr rfl)
      simp only [rangeOk, within, Bool.and_eq_true, decide_eq_true_eq, hfirst] at hr
      exact hr.1.1
    have hcases : (byteAt p 9).toNat = 1 ∨ (byteAt p 9).toNat = 2 ∨ (byteAt p 9).toNat = 3 := by omega
    obtain hb | hb | hb := hcases <;> simp only [decodeOperands, hfirst, hb] <;> rfl
  | restart =>
    have hfirst : natAt (operandArea .restart p) 0 1 = (byteAt p 9).toNat := natAt_slice_first p 0
    have hkind : 1 ≤ (byteAt p 9).toNat ∧ (byteAt p 9).toNat ≤ 2 := by
      have hr := hrange (operandArea .restart p) (List.mem_singleton.mpr rfl)
      simpa only [rangeOk, within, Bool.and_eq_true, decide_eq_true_eq, hfirst] using hr
    have hcases : (byteAt p 9).toNat = 1 ∨ (byteAt p 9).toNat = 2 := by omega
    obtain hb | hb := hcases <;> simp only [decodeOperands, hfirst, hb] <;> rfl
  | _ => rfl

/-! ## Requests served -/

/-- A request of its row is served when R160 does not refuse it. -/
theorem exec_serves {s : State} {e : RequestEntry} {rest : List RequestEntry} {p : List Byte} {r : Req}
    (h : s.headIs e rest p r) (haccess : s.agt.refusal (reqToken p) r.access = none) :
    exec (rowOf r).instr s =
      .next ((s.handling e rest .replying).serve { side := e.side, payload := p, stage := .replying } r) := by
  have hrow := requestRow_of_parse h.2.2
  rw [← hrow, exec_serves_head h haccess, State.handling_eq, Agent.begin_setStage]

/-- Settles O54. -/
theorem readingRequestsAskTheOwners : Obligations.ReadingRequestsAskTheOwners := by
  intro s e rest p r h asks clears bs ms hasks hclears
  have haccess : s.agt.refusal (reqToken p) r.access = none := by
    cases r with
    | statsKey k clear => cases clear with
      | false => rfl
      | true => exact Agent.inSession_refusal (hclears rfl) _
    | statsPort q clear => cases clear with
      | false => rfl
      | true => exact Agent.inSession_refusal (hclears rfl) _
    | statsDevice clear => cases clear with
      | false => rfl
      | true => exact Agent.inSession_refusal (hclears rfl) _
    | readDirectory | readPolicer | readPool | readQueue | readDevice | readNext | status => rfl
    | _ => exact nomatch hasks
  rw [exec_serves h haccess]
  cases r with
  | readDirectory | readPolicer | readPool | readQueue | readDevice | readNext | status | statsKey | statsPort
  | statsDevice =>
    obtain ⟨rfl, rfl⟩ := Prod.mk.inj (Option.some.inj hasks)
    rfl
  | _ => exact nomatch hasks

/-- In SESSION the timer stopped at a take leaves the session of the request's token (R162). -/
theorem Agent.sessionAt_stopped {a : Agent} {p : List Byte} (h : a.inSession p) (q : List Byte) (now : Nat) :
    ((a.sessionAt q now).map fun x => { x with timer := none }) = some { token := reqToken p, timer := none } := by
  obtain ⟨-, hholds⟩ := h
  cases hsession : a.session with
  | none => simp [Agent.holds, hsession] at hholds
  | some x =>
    have htoken : x.token = reqToken p := by simpa [Agent.holds, hsession] using hholds
    simp only [Agent.sessionAt, hsession, Option.map_some]
    split <;> simp [htoken]

/-- Settles O52. -/
theorem sessionAndRestartRequests : Obligations.SessionAndRestartRequests := by
  intro s e rest p b
  refine ⟨fun h => ⟨fun hmode => ?_, fun hin => ?_⟩, fun h hin => ?_, fun h hin => ⟨fun hshadow => ?_, fun hshadow => ?_⟩,
    fun k h hin => ?_⟩
  · obtain rfl := h.1.2.1
    have haccess : s.agt.refusal (reqToken (framePayload e.buf)) .opening = none := by
      simp [Agent.refusal, hmode]
    have hmode' : (s.handling e rest .replying).agt.mode = .noSession := hmode
    refine (exec_serves h haccess).trans ?_
    simp only [State.serve, State.serveOpen, hmode'] <;> rfl
  · obtain rfl := h.1.2.1
    have hmode' : (s.handling e rest .replying).agt.mode = .session := hin.1
    refine (exec_serves h (Agent.inSession_refusal hin _)).trans ?_
    simp only [State.serve, State.serveOpen, hmode'] <;> rfl
  · intro d
    exact exec_serves h (Agent.inSession_refusal hin _)
  · obtain rfl := h.1.2.1
    have hshadow' : (s.handling e rest .replying).agt.shadow = .absent := hshadow
    refine (exec_serves h (Agent.inSession_refusal hin _)).trans ?_
    simp only [State.serve, State.serveAbandon, hshadow'] <;> rfl
  · intro d
    refine (exec_serves h (Agent.inSession_refusal hin _)).trans ?_
    have hserve : (s.handling e rest .replying).serve { side := e.side, payload := p, stage := .replying } .abandon =
        State.discardShadow ((s.handling e rest .replying).withAgt
          ((s.handling e rest .replying).agt.setStage .discarding)) .abandoning := by
      simp only [State.serve, State.serveAbandon]
      cases hcase : s.agt.shadow with
      | absent => exact absurd hcase hshadow
      | dirty rem => simp only [State.handling, hcase]
      | checked rem => simp only [State.handling, hcase]
    rw [hserve] <;> rfl
  · obtain rfl := h.1.2.1
    have hstop := Agent.sessionAt_stopped hin (framePayload e.buf) s.clock.millis
    have hserve := exec_serves h (Agent.inSession_refusal hin _)
    have hrestart : (s.handling e rest .replying).serve
        { side := e.side, payload := framePayload e.buf, stage := .replying } (.restart k) =
          State.reply
            { b with
              agt :=
                { b.agt with
                  session := (s.agt.sessionAt (framePayload e.buf) s.clock.millis).map fun x => { x with timer := none },
                  mode := .restarting,
                  progress := some
                    { token := reqToken (framePayload e.buf), number := reqNumber (framePayload e.buf), kind := .restart,
                      side := e.side },
                  restart := some { kind := k, phase := .replying } } }
            e.side (reqToken (framePayload e.buf)) (reqNumber (framePayload e.buf)) (reqKindCode (framePayload e.buf)) .ok 0
            [] true := rfl
    rw [hrestart, hstop] at hserve
    cases k <;> exact hserve

/-- The shadow's part of a staging request, in the words of the claims (R14, R180, R181). -/
theorem State.handling_serveStaging (s : State) (e : RequestEntry) (rest : List RequestEntry) {r : Req} {m : Msg}
    (hwrite : writeOf r = [m]) :
    (s.handling e rest .replying).serveStaging { side := e.side, payload := framePayload e.buf, stage := .replying } r =
      if crc32 (recordArea (framePayload e.buf)) ≠ recordCheck (framePayload e.buf) then
        (s.handling e rest .replying).replies e .badCheck 0 []
      else if s.agt.shadow = .absent then
        { s.handling e rest (.creating r [.classifier, .admission, .egress]) with
          net := s.net ++ [.shadowCreate .classifier, .shadowCreate .admission, .shadowCreate .egress] }
      else { s.handling e rest (.writing false) with net := s.net ++ [m] } := by
  simp only [State.serveStaging, hwrite]
  by_cases hcheck : crc32 (recordArea (framePayload e.buf)) ≠ recordCheck (framePayload e.buf)
  · rw [if_pos hcheck, if_pos hcheck]
    rfl
  · rw [if_neg hcheck, if_neg hcheck]
    have hshadow : (s.handling e rest .replying).agt.shadow = s.agt.shadow := rfl
    rw [hshadow]
    cases s.agt.shadow <;> rfl

/-- A request of CHECK or COMMIT begins the check (R188, R192). -/
theorem State.handling_beginCheck {s : State} {e : RequestEntry} (hin : s.agt.inSession (framePayload e.buf))
    (rest : List RequestEntry) (k : ProgressKind) :
    (s.handling e rest .replying).beginCheck { side := e.side, payload := framePayload e.buf, stage := .replying } k =
      let b := s.handling e rest .replying
      { b with
        agt :=
          { b.agt with
            mode := .checking, session := some { token := reqToken (framePayload e.buf), timer := none },
            progress := some
              { token := reqToken (framePayload e.buf), number := reqNumber (framePayload e.buf), kind := k, side := e.side },
            hand := none, check := some .start },
        net := s.net ++ checkReads } := by
  rw [← Agent.sessionAt_stopped hin (framePayload e.buf) s.clock.millis]
  rfl

/-- A COMMIT whose digest is that of a CHECKED shadow begins at the preferred lane (R192, R193). -/
theorem State.handling_beginCommit {s : State} {e : RequestEntry} (hin : s.agt.inSession (framePayload e.buf))
    (rest : List RequestEntry) (q : Option InProgress) :
    let b := s.handling e rest .replying
    (b.withAgt { b.agt with progress := q }).beginCommit =
      { b with
        agt :=
          { b.agt with
            mode := .committing, session := some { token := reqToken (framePayload e.buf), timer := none },
            progress := q, hand := none,
            commit := some
              { lane := .l0, swapped := false, admission := false, egress := false, merge := false,
                replicator := false } },
        net := s.net ++ [.deviceRead .commit .shadow 1] } := by
  rw [← Agent.sessionAt_stopped hin (framePayload e.buf) s.clock.millis]
  rfl

theorem State.serveCommit_of_checked {s : State} {rem digest : Word32} (h : AgentHand)
    (hshadow : s.agt.shadow = .checked rem) (hdigest : ~~~ rem = digest) :
    s.serveCommit h digest = (s.withAgt { s.agt with progress := some (h.progress .commit) }).beginCommit := by
  simp only [State.serveCommit, hshadow, if_pos hdigest]

/-- Settles O53. -/
theorem stagingCheckAndCommitRequests : Obligations.StagingCheckAndCommitRequests := by
  intro s e rest p hin b write quiet self limitQueues checking
  refine ⟨fun r m h hwrite => ?_, fun h => ?_, fun d h => ?_⟩
  · obtain rfl := h.1.2.1
    have hserve := exec_serves h (Agent.inSession_refusal hin _)
    cases r with
    | putDirectory | putPolicers | putPools | putQueues | putDevice | dropKeys | clearBank =>
      obtain rfl := Option.some.inj hwrite
      exact hserve.trans (congrArg Host.Outcome.next (State.handling_serveStaging s e rest rfl))
    | _ => exact nomatch hwrite
  · obtain rfl := h.1.2.1
    refine (exec_serves h (Agent.inSession_refusal hin _)).trans ?_
    have hshadow : (s.handling e rest .replying).agt.shadow = s.agt.shadow := rfl
    simp only [State.serve, State.serveCheck, hshadow]
    cases s.agt.shadow with
    | absent => rfl
    | dirty rem => exact congrArg Host.Outcome.next (State.handling_beginCheck hin rest .check)
    | checked rem => rfl
  · obtain rfl := h.1.2.1
    refine (exec_serves h (Agent.inSession_refusal hin _)).trans ?_
    have hshadow : (s.handling e rest .replying).agt.shadow = s.agt.shadow := rfl
    have hmiss : ∀ rem, ¬ ~~~ rem = d →
        (s.agt.shadow = .checked rem ∨ s.agt.shadow = .dirty rem) →
        (s.handling e rest .replying).serveCommit
          { side := e.side, payload := framePayload e.buf, stage := .replying } d = b.replies e .digestMismatch 0 [] := by
      rintro rem hdigest (hcase | hcase) <;>
        simp only [State.serveCommit, hshadow, hcase, if_neg hdigest] <;> rfl
    cases hcase : s.agt.shadow with
    | absent => simp only [State.serve, State.serveCommit, hshadow, hcase] <;> rfl
    | dirty rem =>
      by_cases hdigest : ~~~ rem = d
      · simp only [State.serve, State.serveCommit, hshadow, hcase, if_pos hdigest]
        exact congrArg Host.Outcome.next (State.handling_beginCheck hin rest .commit)
      · simp only [State.serve, hmiss rem hdigest (.inr hcase), if_neg hdigest]
    | checked rem =>
      by_cases hdigest : ~~~ rem = d
      · have hcommit := State.handling_beginCommit hin rest
          (some { token := reqToken (framePayload e.buf), number := reqNumber (framePayload e.buf), kind := .commit,
                  side := e.side })
        rw [State.serve, State.serveCommit_of_checked _ (hshadow.trans hcase) hdigest]
        simp only [if_pos hdigest]
        exact congrArg Host.Outcome.next hcommit
      · simp only [State.serve, hmiss rem hdigest (.inl hcase), if_neg hdigest]

end Sys2Proof.Machine
end

section
set_option Elab.async false
/-! The tests of a request at its take: form, retransmission, access (R10 to R16, R155 to R160). -/

namespace Sys2Proof.Machine

/-! ## The kinds and their rows (R12) -/

/-- The codes of R12. -/
def kindCodes : List (Nat × ReqKind) :=
  [(0x01, .openSession), (0x02, .closeSession), (0x10, .put), (0x11, .drop), (0x12, .clear), (0x13, .abandon),
    (0x14, .check), (0x15, .commit), (0x20, .read), (0x21, .readNext), (0x22, .readStats), (0x23, .status),
    (0x30, .restart)]

theorem reqKindOf_eq_some_iff (n : Nat) (k : ReqKind) : reqKindOf n = some k ↔ (n, k) ∈ kindCodes := by
  constructor
  · intro h
    unfold reqKindOf at h
    split at h <;> cases h <;> decide
  · intro h
    have hall : ∀ x ∈ kindCodes, reqKindOf x.1 = some x.2 := by decide
    exact hall (n, k) h

theorem entryLength_eq (t : Nat) : entryLength t = if t = 1 then 16 else if t = 2 then 8 else 4 := by
  unfold entryLength
  split
  · rfl
  · rfl
  · rename_i h1 h2
    rw [if_neg h1, if_neg h2]

theorem readIndexMax_eq (t : Nat) : readIndexMax t = if t = 2 then 63 else if t = 4 then 11 else 7 := by
  unfold readIndexMax
  split
  · rfl
  · rfl
  · rfl
  · rename_i h2 h3 h4
    rw [if_neg h2, if_neg h4]

/-! ## The entries a request is tested on (R11, R13) -/

theorem chunks_length (len n : Nat) (bs : List Byte) : (chunks len n bs).length = n := by
  induction n generalizing bs with
  | zero => rfl
  | succ n ih => simp [chunks, ih]

theorem chunks_getElem? (len : Nat) {n i : Nat} (hi : i < n) (bs : List Byte) :
    (chunks len n bs)[i]? = some ((bs.drop (i * len)).take len) := by
  induction n generalizing bs i with
  | zero => omega
  | succ n ih =>
    cases i with
    | zero => simp [chunks]
    | succ i =>
      have hi' : i < n := by omega
      have hsum : len + i * len = (i + 1) * len := by ring
      simp [chunks, ih hi', List.drop_drop, hsum]

/-- The entries of `n` entries of `len` bytes are cut from the payload where R11 says. -/
theorem chunks_slice_getElem? (p : List Byte) (len : Nat) {n i : Nat} (hi : i < n) :
    (chunks len n (slice p 9 (n * len)))[i]? = some ((p.drop (9 + i * len)).take len) := by
  have hroom : len ≤ n * len - i * len := by
    rw [← Nat.sub_mul]
    exact Nat.le_mul_of_pos_left len (by omega)
  rw [chunks_getElem? len hi, slice, List.drop_take, List.drop_drop, List.take_take, min_eq_left hroom]

/-! ## The conditions of R13 in order -/

theorem parseRequest_of_short {p : List Byte} (h : p.length < 9) : parseRequest p = .error (.short, 0) := by
  simp [parseRequest, h]

theorem parseRequest_of_kind {p : List Byte} {k : ReqKind} (hlength : 9 ≤ p.length)
    (hkind : reqKindOf (reqKindCode p) = some k) :
    parseRequest p = match malformedKind k p with
      | some e => .error e
      | none => .ok (decodeOperands k p) := by
  have hlong : ¬ p.length < 9 := by omega
  simp only [parseRequest, if_neg hlong, hkind] <;> rfl

theorem parseRequest_of_malformed {p : List Byte} {k : ReqKind} {x : Reason × Nat} (hlength : 9 ≤ p.length)
    (hkind : reqKindOf (reqKindCode p) = some k) (h : malformedKind k p = some x) : parseRequest p = .error x := by
  rw [parseRequest_of_kind hlength hkind, h]

section Entries
variable {k : ReqKind} {p : List Byte} {pre post : List (List Byte)} {e : List Byte} (hfixed : FixedOk k p)
include hfixed

theorem malformedKind_of_range (hes : requestEntries k p = pre ++ e :: post)
    (hpre : ∀ x ∈ pre, rangeOk k (reqTable p) x = true) (he : rangeOk k (reqTable p) e = false) :
    malformedKind k p = some (.fieldRange, pre.length) := by
  rw [malformedKind_of_fixedOk hfixed, hes, findIdx?_not_of_split hpre he]

theorem malformedKind_of_key (hrange : ∀ x ∈ requestEntries k p, rangeOk k (reqTable p) x = true)
    (hes : requestEntries k p = pre ++ e :: post) (hpre : ∀ x ∈ pre, keyOk k (reqTable p) x = true)
    (he : keyOk k (reqTable p) e = false) : malformedKind k p = some (.zeroKey, pre.length) := by
  rw [malformedKind_of_fixedOk hfixed, findIdx?_not_eq_none.mpr hrange, hes, findIdx?_not_of_split hpre he]

theorem malformedKind_of_fill (hrange : ∀ x ∈ requestEntries k p, rangeOk k (reqTable p) x = true)
    (hkey : ∀ x ∈ requestEntries k p, keyOk k (reqTable p) x = true) (hes : requestEntries k p = pre ++ e :: post)
    (hpre : ∀ x ∈ pre, fillOk k (reqTable p) x = true) (he : fillOk k (reqTable p) e = false) :
    malformedKind k p = some (.nonzeroFill, pre.length) := by
  rw [malformedKind_of_fixedOk hfixed, findIdx?_not_eq_none.mpr hrange, findIdx?_not_eq_none.mpr hkey, hes,
    findIdx?_not_of_split hpre he]

theorem malformedKind_of_entries (hrange : ∀ x ∈ requestEntries k p, rangeOk k (reqTable p) x = true)
    (hkey : ∀ x ∈ requestEntries k p, keyOk k (reqTable p) x = true)
    (hfill : ∀ x ∈ requestEntries k p, fillOk k (reqTable p) x = true) :
    malformedKind k p = if reqToken p = 0 then some (.zeroToken, 0) else none := by
  rw [malformedKind_of_fixedOk hfixed, findIdx?_not_eq_none.mpr hrange, findIdx?_not_eq_none.mpr hkey,
    findIdx?_not_eq_none.mpr hfill]

end Entries

theorem tableOk_iff (k : ReqKind) (t : Nat) :
    tableOk k t = true ↔
      match k with
      | .put | .read => 1 ≤ t ∧ t ≤ 5
      | .drop | .clear | .readNext => t = 1
      | _ => t = 0 := by
  cases k <;> simp [tableOk]

theorem countOk_iff (k : ReqKind) (t c : Nat) :
    countOk k t c = true ↔
      match k with
      | .put => 1 ≤ c ∧ c ≤ (if t = 1 then 8 else 16)
      | .drop | .readNext => 1 ≤ c ∧ c ≤ 8
      | .clear | .read => c = 1
      | _ => c = 0 := by
  cases k <;> simp [countOk]

/-! ## Retransmission, take and access (R155 to R160) -/

/-- The cached reply `c` is that of the request `p` (R158). -/
def Agent.CachedFor (a : Agent) (p : List Byte) (c : CacheEntry) : Prop :=
  a.cache = some c ∧ c.token = reqToken p ∧ c.number = reqNumber p

/-- The request `p` is the one in progress (R158). -/
def Agent.ProgressFor (a : Agent) (p : List Byte) : Prop :=
  ∃ q, a.progress = some q ∧ q.token = reqToken p ∧ q.number = reqNumber p

section Retransmission
variable {a : Agent} {p : List Byte}

theorem Agent.retransmission_of_short (h : p.length < 6 ∨ reqToken p = 0) : a.retransmission p = .fresh := by
  simp only [Agent.retransmission, if_pos h]

theorem Agent.retransmission_of_cached (hlength : 6 ≤ p.length) (htoken : reqToken p ≠ 0) {c : CacheEntry}
    (h : a.CachedFor p c) : a.retransmission p = .cached c.payload := by
  obtain ⟨hcache, hsame⟩ := h
  have hlong : ¬ (p.length < 6 ∨ reqToken p = 0) := fun h => h.elim (by omega) htoken
  simp only [Agent.retransmission, if_neg hlong, hcache, if_pos hsame]

/-- With no cached reply of its own, a request is a retransmission exactly when it is in progress (R158). -/
theorem Agent.retransmission_of_uncached (hlength : 6 ≤ p.length) (htoken : reqToken p ≠ 0)
    (hcache : ∀ c, ¬ a.CachedFor p c) :
    (a.ProgressFor p → a.retransmission p = .ignored) ∧ (¬ a.ProgressFor p → a.retransmission p = .fresh) := by
  have hlong : ¬ (p.length < 6 ∨ reqToken p = 0) := fun h => h.elim (by omega) htoken
  have hmiss : ∀ c, a.cache = some c → ¬ (c.token = reqToken p ∧ c.number = reqNumber p) := fun c hc hsame =>
    hcache c ⟨hc, hsame⟩
  have hprogress : ∀ same : Bool, same = (match a.progress with
      | some q => q.token == reqToken p && q.number == reqNumber p
      | none => false) → (same = true ↔ a.ProgressFor p) := by
    rintro same rfl
    cases hq : a.progress with
    | none => simp [Agent.ProgressFor, hq]
    | some q => simp [Agent.ProgressFor, hq]
  have heval : a.retransmission p = if (match a.progress with
      | some q => q.token == reqToken p && q.number == reqNumber p
      | none => false) = true then .ignored else .fresh := by
    simp only [Agent.retransmission, if_neg hlong]
    cases hc : a.cache with
    | none => rfl
    | some c => simp only [if_neg (hmiss c hc)] <;> rfl
  rw [heval]
  exact ⟨fun h => if_pos ((hprogress _ rfl).mpr h), fun h => if_neg fun htrue => h ((hprogress _ rfl).mp htrue)⟩

theorem Agent.retransmission_eq_fresh_iff :
    a.retransmission p = .fresh ↔
      p.length < 6 ∨ reqToken p = 0 ∨ ((∀ c, ¬ a.CachedFor p c) ∧ ¬ a.ProgressFor p) := by
  by_cases hlength : p.length < 6
  · simp [Agent.retransmission_of_short (Or.inl hlength), hlength]
  by_cases htoken : reqToken p = 0
  · simp [Agent.retransmission_of_short (Or.inr htoken), htoken]
  by_cases hcache : ∀ c, ¬ a.CachedFor p c
  · obtain ⟨hignored, hfresh⟩ := Agent.retransmission_of_uncached (by omega) htoken hcache
    by_cases hprogress : a.ProgressFor p
    · simp only [hignored hprogress, hlength, htoken, hprogress, not_true, and_false, or_self, reduceCtorEq]
    · simp only [hfresh hprogress, hprogress, not_false_eq_true, and_true, true_iff]
      exact .inr (.inr hcache)
  · obtain ⟨c, hc⟩ := not_forall_not.mp hcache
    simp only [Agent.retransmission_of_cached (by omega) htoken hc, hlength, htoken, hcache, false_and, or_self,
      reduceCtorEq]

end Retransmission

theorem Agent.takesRequest_iff (a : Agent) (now : Nat) :
    a.takesRequest now = true ↔
      a.hand = none ∧ a.ready = none ∧ (∀ o, a.output = some o → o.reply = false) ∧ a.discard = none ∧ a.deferred = [] ∧
        ¬ (a.expiryDeferred = true ∧ a.expiryDue now = true) := by
  cases houtput : a.output <;> cases hdeferred : a.expiryDeferred <;>
    simp [Agent.takesRequest, Agent.replyUnderWay, Agent.deferredWaits, houtput, hdeferred, and_assoc, and_left_comm,
      and_comm]

theorem RequestRow.exec_instr (row : RequestRow) (s : State) : exec row.instr s = s.takeRequest row := by
  cases row <;> rfl

/-- A request command that does not take the head request changes nothing (log 1, log 9). -/
theorem State.takeRequest_of_idle {s : State} {row : RequestRow}
    (h : s.agt.queue = [] ∨ (∃ e rest, s.agt.queue = e :: rest ∧ requestRow (framePayload e.buf) ≠ row) ∨
      s.agt.takesRequest s.clock.millis = false) : s.takeRequest row = .next s := by
  unfold State.takeRequest
  cases hqueue : s.agt.queue with
  | nil => rfl
  | cons e rest =>
    have hno : ¬ (requestRow (framePayload e.buf) = row ∧ s.agt.takesRequest s.clock.millis = true) := by
      rintro ⟨hrow, htakes⟩
      obtain hempty | ⟨e', rest', hcons, hne⟩ | hbusy := h
      · cases hqueue.symm.trans hempty
      · obtain ⟨rfl, rfl⟩ := List.cons.inj (hqueue.symm.trans hcons)
        exact hne hrow
      · cases htakes.symm.trans hbusy
    exact if_neg hno

theorem Agent.refusal_eq (a : Agent) (token : Word32) (c : Access) :
    a.refusal token c =
      if c = .anyone ∨ (a.mode = .session ∧ a.holds token = true) ∨ (c = .opening ∧ a.mode = .noSession) then none
      else if c = .holder ∧ a.mode = .noSession then some .noSession
      else if c = .holder ∧ a.mode = .session then some .notHolder
      else some .busy := by
  cases c with
  | anyone => rfl
  | opening => cases hmode : a.mode <;> simp [Agent.refusal, hmode]
  | holder => cases hmode : a.mode <;> simp [Agent.refusal, hmode]

/-! ## The obligation, part by part -/

/-- The conditions on the fixed bytes and the entries of a request, in order (R13). -/
theorem parseRequest_in_order {p : List Byte} {k : ReqKind} (hlength : 9 ≤ p.length)
    (hkind : reqKindOf (reqKindCode p) = some k) (hfixed : FixedOk k p) :
    let t := reqTable p
    let es := requestEntries k p
    (∀ pre e post, es = pre ++ e :: post → (∀ x ∈ pre, rangeOk k t x = true) → rangeOk k t e = false →
      parseRequest p = .error (.fieldRange, pre.length)) ∧
    ((∀ x ∈ es, rangeOk k t x = true) →
      (∀ pre e post, es = pre ++ e :: post → (∀ x ∈ pre, keyOk k t x = true) → keyOk k t e = false →
        parseRequest p = .error (.zeroKey, pre.length)) ∧
      ((∀ x ∈ es, keyOk k t x = true) →
        (∀ pre e post, es = pre ++ e :: post → (∀ x ∈ pre, fillOk k t x = true) → fillOk k t e = false →
          parseRequest p = .error (.nonzeroFill, pre.length)) ∧
        ((∀ x ∈ es, fillOk k t x = true) →
          (reqToken p = 0 → parseRequest p = .error (.zeroToken, 0)) ∧
          (reqToken p ≠ 0 → parseRequest p = .ok (decodeOperands k p))))) := by
  intro t es
  refine ⟨fun pre e post hes hpre he => parseRequest_of_malformed hlength hkind (malformedKind_of_range hfixed hes hpre he),
    fun hrange => ⟨fun pre e post hes hpre he =>
      parseRequest_of_malformed hlength hkind (malformedKind_of_key hfixed hrange hes hpre he), fun hkey =>
      ⟨fun pre e post hes hpre he =>
        parseRequest_of_malformed hlength hkind (malformedKind_of_fill hfixed hrange hkey hes hpre he),
        fun hfill => ⟨fun htoken => ?_, fun htoken => ?_⟩⟩⟩⟩
  · exact parseRequest_of_malformed hlength hkind
      ((malformedKind_of_entries hfixed hrange hkey hfill).trans (if_pos htoken))
  · rw [parseRequest_of_kind hlength hkind, malformedKind_of_entries hfixed hrange hkey hfill, if_neg htoken]

theorem requestLength_eq (k : ReqKind) (t c : Nat) :
    requestLength k t c =
      9 + match k with
        | .put => c * (if t = 1 then 16 else if t = 2 then 8 else 4) + 4
        | .drop => c * 4 + 4
        | .clear => 8
        | .commit => 4
        | .read => 5
        | .readNext => 5
        | .readStats => 6
        | .restart => 1
        | _ => 0 := by
  cases k with
  | put => rw [← entryLength_eq]; rfl
  | _ => rfl

/-- The operands of a request that is not cut into entries are tested as one. -/
theorem requestEntries_single {k : ReqKind} (p : List Byte) (hput : k ≠ .put) (hdrop : k ≠ .drop) :
    requestEntries k p =
      [(p.drop 9).take (requestLength k (reqTable p) (reqCount p) - (if k = .clear then 13 else 9))] := by
  cases k with
  | put => exact absurd rfl hput
  | drop => exact absurd rfl hdrop
  | _ => rfl

/-- What the ranges, keys and fills of R13 are, kind by kind. -/
theorem entry_tests (t : Nat) (e : List Byte) :
    (rangeOk .read t e = true ↔
      natAt e 0 1 ≤ 1 ∧ (t = 1 ∨ natAt e 4 1 ≤ (if t = 2 then 63 else if t = 4 then 11 else 7))) ∧
    (keyOk .read t e = true ↔ (t = 1 → natAt e 2 3 ≠ 0)) ∧
    (fillOk .read t e = true ↔ if t = 1 then natAt e 1 1 = 0 else natAt e 1 3 = 0) ∧
    (rangeOk .readNext t e = true ↔ natAt e 0 1 ≤ 1) ∧ keyOk .readNext t e = true ∧
    (fillOk .readNext t e = true ↔ natAt e 1 1 = 0) ∧
    (rangeOk .readStats t e = true ↔
      1 ≤ natAt e 0 1 ∧ natAt e 0 1 ≤ 3 ∧ natAt e 5 1 ≤ 1 ∧ (natAt e 0 1 = 2 → natAt e 4 1 ≤ 2)) ∧
    (keyOk .readStats t e = true ↔ (natAt e 0 1 = 1 → natAt e 2 3 ≠ 0)) ∧
    (fillOk .readStats t e = true ↔
      natAt e 1 (if natAt e 0 1 = 1 then 1 else if natAt e 0 1 = 2 then 3 else 4) = 0) ∧
    (rangeOk .restart t e = true ↔ natAt e 0 1 = 1 ∨ natAt e 0 1 = 2) ∧
    (rangeOk .put t e = entryRangeOk t e) ∧ (keyOk .put t e = true ↔ (t = 1 → natAt e 0 3 ≠ 0)) ∧
    (fillOk .put t e = entryFillOk t e) ∧ (keyOk .drop t e = true ↔ natAt e 1 3 ≠ 0) ∧
    (fillOk .drop t e = true ↔ natAt e 0 1 = 0) ∧ (fillOk .clear t e = true ↔ natAt e 0 4 = 0) := by
  refine ⟨?_, ?_, ?_, ?_, rfl, ?_, ?_, ?_, ?_, ?_, rfl, ?_, rfl, ?_, ?_, ?_⟩
  · simp [rangeOk, readIndexMax_eq]
  · simp [keyOk, imp_iff_not_or]
  · simp only [fillOk]; split <;> simp
  · simp [rangeOk]
  · simp [fillOk]
  · simp [rangeOk, within, and_assoc, imp_iff_not_or]
  · simp [keyOk, imp_iff_not_or]
  · simp only [fillOk]; split
    · simp
    · split <;> simp
  · simp only [rangeOk, within, Bool.and_eq_true, decide_eq_true_eq]; omega
  · simp [keyOk, imp_iff_not_or]
  · simp [keyOk]
  · simp [fillOk]
  · simp [fillOk]

/-- The take of the head request, test by test (R158 to R160). -/
theorem exec_tests_head {s : State} {e : RequestEntry} {rest : List RequestEntry} {p : List Byte}
    (h : s.headRequest e rest p) :
    let b := s.handling e rest .replying
    let c := (requestRow p).instr
    (∀ payload, s.agt.retransmission p = .cached payload →
      exec c s = .next
        (State.outputChoice
          { b with agt := { b.agt with ready := some { side := e.side, payload := payload, restart := false } } })) ∧
    (s.agt.retransmission p = .ignored → exec c s = .next { b with agt := { b.agt with hand := none } }) ∧
    (∀ r i, s.agt.retransmission p = .fresh → parseRequest p = .error (r, i) →
      exec c s = .next (b.replies e .malformed (4096 * reasonCode r + i) [])) ∧
    (∀ r st, s.agt.retransmission p = .fresh → parseRequest p = .ok r → s.agt.refusal (reqToken p) r.access = some st →
      exec c s = .next (b.replies e st 0 [])) := by
  intro b c
  obtain rfl := h.2.1
  have htake : exec c s = .next (State.handleRequest b
      { side := e.side, payload := framePayload e.buf, stage := .replying }) := by
    rw [exec_takes_head h, ← Agent.begin_setStage, ← State.handling_eq]
  have hrepeat : b.agt.retransmission (framePayload e.buf) = s.agt.retransmission (framePayload e.buf) := rfl
  refine ⟨fun payload hcached => ?_, fun hignored => ?_, fun r i hfresh hparse => ?_, fun r st hfresh hparse hrefused => ?_⟩
  · rw [htake]
    simp only [State.handleRequest, hrepeat, hcached] <;> rfl
  · rw [htake]
    simp only [State.handleRequest, hrepeat, hignored] <;> rfl
  · rw [htake]
    simp only [State.handleRequest, hrepeat, hfresh, hparse] <;> rfl
  · have hrefusal : b.agt.refusal (reqToken (framePayload e.buf)) r.access = some st := by
      rw [← hrefused]
      simp only [b, State.handling_eq, Agent.begin_setStage, State.withAgt, Agent.begin_refusal]
    rw [htake]
    simp only [State.handleRequest, hrepeat, hfresh, hparse, hrefusal] <;> rfl

/-- Settles O51. -/
theorem requestsAreTestedBeforeTheyAreServed : Obligations.RequestsAreTestedBeforeTheyAreServed := by
  refine ⟨reqKindOf_eq_some_iff, fun k t c => ?_, fun p => ⟨parseRequest_of_short, fun hlength hkind => ?_,
    fun k hlength hkind => ?_⟩, entry_tests, fun a p => Agent.retransmission_eq_fresh_iff.trans ?_,
    fun s n e rest h => ?_, Agent.takesRequest_iff, fun s row hidle => ?_, fun p r => requestRow_of_parse,
    fun a p hlength htoken => ⟨fun c hcache htok hnum => ?_, fun hcache hprogress => ?_⟩, fun a p => a.refusal_eq (reqToken p),
    fun s e rest p h => exec_tests_head h⟩
  · intro entry row
    refine ⟨(tableOk_iff k t).trans ?_, (countOk_iff k t c).trans ?_, ?_⟩
    · cases k <;> exact Iff.rfl
    · cases k <;> exact Iff.rfl
    · rw [requestLength_eq]
      cases k <;> rfl
  · have hlong : ¬ p.length < 9 := by omega
    have hkind' : reqKindOf (reqKindCode p) = none := hkind
    simp only [parseRequest, if_neg hlong, hkind']
  · intro t c es
    refine ⟨fun htable hcount hne => ?_, fun htable => ?_, fun htable hcount => ?_, fun htable hcount hlen => ?_⟩
    · exact parseRequest_of_malformed hlength hkind (malformedKind_of_length htable hcount hne)
    · exact parseRequest_of_malformed hlength hkind (malformedKind_of_table htable)
    · exact parseRequest_of_malformed hlength hkind (malformedKind_of_count htable hcount)
    · obtain ⟨hrange, hrest⟩ := parseRequest_in_order hlength hkind ⟨htable, hcount, hlen⟩
      refine ⟨hrange, hrest, ?_, ?_, requestEntries_single p⟩
      · rintro rfl len
        have hlen : entryLength (reqTable p) = len := entryLength_eq _
        refine ⟨chunks_length _ _ _, fun i hi => ?_⟩
        rw [← hlen]
        exact chunks_slice_getElem? p _ hi
      · rintro rfl
        exact ⟨chunks_length _ _ _, fun i hi => chunks_slice_getElem? p 4 hi⟩
  · simp only [Agent.CachedFor, Agent.ProgressFor, not_and, not_exists]
  · show execRequestPlacement s = _
    refine Eq.trans (State.onMsg_of_takeFirst _ h) ?_
    have hplace : s.agt.place e = if s.agt.queue.length < 4 then ({ s.agt with queue := s.agt.queue ++ [e] }, true)
        else (s.agt, false) := rfl
    by_cases hroom : s.agt.queue.length < 4
    · rw [if_pos hroom] at hplace
      simp only [State.requestPlacement, hplace, hroom, if_true, decide_true] <;> rfl
    · rw [if_neg hroom] at hplace
      simp only [State.requestPlacement, hplace, hroom, if_false, decide_false] <;> rfl
  · rw [RequestRow.exec_instr, State.takeRequest_of_idle hidle]
  · exact Agent.retransmission_of_cached hlength htoken ⟨hcache, htok, hnum⟩
  · exact (Agent.retransmission_of_uncached hlength htoken fun c hc => hcache c hc.1 hc.2).1 hprogress

end Sys2Proof.Machine
end

section
set_option Elab.async false
/-! Checks, commits and restarts at the agent (R157, R175 to R178, R188 to R195). -/

namespace Sys2Proof.Machine

/-! ## Events deferred past the request in hand (R157) -/

/-- A message that only `f a` yields `a` from is the message `f a`. -/
theorem takeFirst_message {α : Type} {sel : Msg → Option α} {f : α → Msg} (hsel : ∀ m a, sel m = some a → m = f a)
    (n : List Msg) :
    takeFirst (fun m => (sel m).map fun _ => m) n = (takeFirst sel n).map fun q => (f q.1, q.2) := by
  induction n with
  | nil => rfl
  | cons m ms ih =>
    simp only [takeFirst]
    cases hm : sel m with
    | some a => simp [hsel m a hm]
    | none =>
      simp only [Option.map_none, ih]
      cases takeFirst sel ms <;> rfl

section Deferral
variable {α : Type} {s : State} {sel : Msg → Option α} (k : α → State → State)

theorem State.agentEvent_of_hand {h : AgentHand} (hhand : s.agt.hand = some h) :
    s.agentEvent sel k =
      match takeFirst (fun m => (sel m).map fun _ => m) s.net with
      | none => .next s
      | some (m, rest) => .next (s.defers m rest) := by
  simp only [State.agentEvent, hhand, Option.isSome_some, if_true, State.defers] <;> rfl

theorem State.agentEvent_of_idle (hhand : s.agt.hand = none) :
    s.agentEvent sel k =
      match takeFirst sel s.agt.deferred with
      | some (a, rest) => .next (k a (s.withAgt { s.agt with deferred := rest }))
      | none => s.onMsg sel k := by
  simp only [State.agentEvent, hhand, Option.isSome_none, Bool.false_eq_true, if_false] <;> rfl

/-- With a request in hand an event is deferred, or does not happen when its message is not on its way (R157, log 1). -/
theorem State.agentEvent_defers {h : AgentHand} (hhand : s.agt.hand = some h) {f : α → Msg}
    (hsel : ∀ m a, sel m = some a → m = f a) :
    s.agentEvent sel k = .next ((takeFirst sel s.net).elim s fun q => s.defers (f q.1) q.2) := by
  rw [State.agentEvent_of_hand k hhand, takeFirst_message hsel]
  cases takeFirst sel s.net <;> rfl

end Deferral

/-! ## What the selectors pick -/

theorem selCheckAns_message {r : CheckRead} (m : Msg) (a : ReadAnswer) (h : selCheckAns r m = some a) : m = .checkAns r a := by
  cases m <;> simp [selCheckAns] at h
  obtain ⟨rfl, rfl⟩ := h
  rfl

theorem selLaneRead_message (m : Msg) (a : ReadAnswer) (h : selLaneRead m = some a) : m = .laneAns a := by
  cases m <;> simp [selLaneRead] at h
  rw [h]

theorem selSwapReport_message (m : Msg) (r : Option SwapReport) (h : selSwapReport m = some r) : m = .swapReport r := by
  cases m <;> simp [selSwapReport] at h
  rw [h]

theorem selSwapDone_message {b : Block} (m : Msg) (ok : Bool) (h : selSwapDone b m = some ok) : m = .swapDone b ok := by
  cases m <;> simp [selSwapDone] at h
  obtain ⟨rfl, rfl⟩ := h
  rfl

theorem selReconcileDone_message {b : Block} (m : Msg) (u : Unit) (h : selReconcileDone b m = some u) :
    m = .reconcileDone b := by
  cases m <;> simp [selReconcileDone] at h
  rw [h]

theorem selWatchReturned_message (m : Msg) (u : Unit) (h : selWatchReturned m = some u) : m = .watchReturned := by
  cases m <;> simp [selWatchReturned] at h
  rfl

theorem selRestartDone_message {b : Block} (m : Msg) (u : Unit) (h : selRestartDone b m = some u) :
    m = .restartDone b := by
  cases m <;> simp [selRestartDone] at h
  rw [h]

/-! ## What the agent keeps when it takes a deferred message or one on its way -/

section Takes
variable {α : Type} {s t : State} {sel : Msg → Option α} {a : α} (h : s.agentTakes sel a t)
include h

theorem State.agentTakes_agent : ∃ d, t.agt = { s.agt with deferred := d } := by
  obtain ⟨-, ⟨rest, -, rfl⟩ | ⟨-, rest, -, rfl⟩⟩ := h
  · exact ⟨rest, rfl⟩
  · exact ⟨s.agt.deferred, rfl⟩

theorem State.agentTakes_node : t.node = s.node ∧ t.clock = s.clock := by
  obtain ⟨-, ⟨rest, -, rfl⟩ | ⟨-, rest, -, rfl⟩⟩ := h <;> exact ⟨rfl, rfl⟩

end Takes

/-! ## Commit reports (R193 to R195) -/

theorem CommitWork.complete_iff (w : CommitWork) :
    w.complete = true ↔
      w.swapped = true ∧ w.admission = true ∧ w.egress = true ∧ w.merge = true ∧ w.replicator = true := by
  simp [CommitWork.complete, and_assoc]

/-- The completion of a commit, by the request in progress. -/
theorem State.commitReport_eq (s : State) (w : CommitWork) :
    s.commitReport w =
      s.agt.progress.elim { s with agt := { s.agt with commit := some w } } fun q =>
        if w.swapped = true ∧ w.admission = true ∧ w.egress = true ∧ w.merge = true ∧ w.replicator = true then
          State.answerProgress { s with agt := { s.agt with commit := none, shadow := .absent } } q .ok 0
        else { s with agt := { s.agt with commit := some w } } := by
  simp only [State.commitReport, CommitWork.complete_iff]
  cases hq : s.agt.progress with
  | none => exact ite_self _
  | some q => rfl

/-- With a request in hand every report of a commit or a restart is deferred (R157, log 6). -/
theorem reports_defer {s : State} {h : AgentHand} (hhand : s.agt.hand = some h) :
    exec .preferredLaneAnswer s = .next (match takeFirst selLaneRead s.net with
      | some (a, rest) => s.defers (.laneAns a) rest
      | none => s) ∧
    exec .swapReport s = .next (match takeFirst selSwapReport s.net with
      | some (r, rest) => s.defers (.swapReport r) rest
      | none => s) ∧
    (∀ b, exec (.swapDone b) s = .next (match takeFirst (selSwapDone b) s.net with
      | some (ok, rest) => s.defers (.swapDone b ok) rest
      | none => s)) ∧
    (∀ b, exec (.reconciliationDone b) s = .next (match takeFirst (selReconcileDone b) s.net with
      | some (_, rest) => s.defers (.reconcileDone b) rest
      | none => s)) ∧
    exec .watchReturned s = .next (match takeFirst selWatchReturned s.net with
      | some (_, rest) => s.defers .watchReturned rest
      | none => s) ∧
    (∀ b, exec (.restartDone b) s = .next (match takeFirst (selRestartDone b) s.net with
      | some (_, rest) => s.defers (.restartDone b) rest
      | none => s)) := by
  refine ⟨?_, ?_, fun b => ?_, fun b => ?_, ?_, fun b => ?_⟩
  · show execPreferredLaneAnswer s = _
    refine (State.agentEvent_defers _ hhand selLaneRead_message).trans ?_
    cases takeFirst selLaneRead s.net <;> rfl
  · show execSwapReport s = _
    refine (State.agentEvent_defers _ hhand selSwapReport_message).trans ?_
    cases takeFirst selSwapReport s.net <;> rfl
  · show execSwapDone b s = _
    refine (State.agentEvent_defers _ hhand selSwapDone_message).trans ?_
    cases takeFirst (selSwapDone b) s.net <;> rfl
  · show execReconciliationDone b s = _
    refine (State.agentEvent_defers (f := fun _ => .reconcileDone b) _ hhand selReconcileDone_message).trans ?_
    cases takeFirst (selReconcileDone b) s.net <;> rfl
  · show execWatchReturned s = _
    refine (State.agentEvent_defers (f := fun _ => .watchReturned) _ hhand selWatchReturned_message).trans ?_
    cases takeFirst selWatchReturned s.net <;> rfl
  · show execRestartDone b s = _
    refine (State.agentEvent_defers (f := fun _ => .restartDone b) _ hhand selRestartDone_message).trans ?_
    cases takeFirst (selRestartDone b) s.net <;> rfl

/-- The release of the RESTART's own reply begins the restart (R175, R177, R178). -/
theorem State.restartEvent_of_replying {s : State} {k : RestartKind}
    (h : s.agt.restart = some { kind := k, phase := .replying }) :
    s.restartEvent =
      (s.withAgt
        { (match k with
            | .traffic => s.agt.trafficPart
            | .full => s.agt.fullPart s.clock.millis) with
          restart := some { kind := k, phase := .first firstGroup } }).send (firstGroup.map fun b => .restart b k) := by
  simp only [State.restartEvent, h] <;> rfl

theorem State.restartReport_first {s : State} {k : RestartKind} {w : List Block}
    (h : s.agt.restart = some { kind := k, phase := .first w }) (b : Block) :
    s.restartReport b =
      if w.erase b = [] then
        (s.withAgt { s.agt with restart := some { kind := k, phase := .second (secondGroup k) } }).send
          ((secondGroup k).map fun b => .restart b k)
      else s.withAgt { s.agt with restart := some { kind := k, phase := .first (w.erase b) } } := by
  simp only [State.restartReport, h, ite_isEmpty]

theorem State.restartReport_second {s : State} {k : RestartKind} {w : List Block}
    (h : s.agt.restart = some { kind := k, phase := .second w }) (b : Block) :
    s.restartReport b =
      if w.erase b = [] then s.restartEnd k
      else s.withAgt { s.agt with restart := some { kind := k, phase := .second (w.erase b) } } := by
  simp only [State.restartReport, h, ite_isEmpty]

/-- With no message to take, a report's command changes nothing (log 1). -/
theorem reports_lack (s : State) :
    (s.agentLacks selLaneRead → exec .preferredLaneAnswer s = .next s) ∧
    (s.agentLacks selSwapReport → exec .swapReport s = .next s) ∧
    (∀ b, s.agentLacks (selSwapDone b) → exec (.swapDone b) s = .next s) ∧
    (∀ b, s.agentLacks (selReconcileDone b) → exec (.reconciliationDone b) s = .next s) ∧
    (s.agentLacks selWatchReturned → exec .watchReturned s = .next s) ∧
    (∀ b, s.agentLacks (selRestartDone b) → exec (.restartDone b) s = .next s) := by
  refine ⟨fun h => ?_, fun h => ?_, fun b h => ?_, fun b h => ?_, fun h => ?_, fun b h => ?_⟩
  · show execPreferredLaneAnswer s = _
    exact State.agentEvent_lacks _ h
  · show execSwapReport s = _
    exact State.agentEvent_lacks _ h
  · show execSwapDone b s = _
    exact State.agentEvent_lacks _ h
  · show execReconciliationDone b s = _
    exact State.agentEvent_lacks _ h
  · show execWatchReturned s = _
    exact State.agentEvent_lacks _ h
  · show execRestartDone b s = _
    exact State.agentEvent_lacks _ h

section Commit
variable {s t : State} {w : CommitWork} (hw : s.agt.commit = some w)
include hw

theorem State.laneAnswer_of_commit (l : Lane) :
    s.laneAnswer (.device (.preferredLane l)) =
      (s.withAgt { s.agt with commit := some { w with lane := l } }).send (shadowBlocks.map .swap) := by
  simp only [State.laneAnswer, hw]

theorem State.swapReport_of_commit (r : SwapReport) :
    s.swapReport (some r) =
      ((s.withAgt { s.agt with params := r.params }).send
        [.reconcile .merge r.gen r.changes w.lane, .reconcile .replicator r.gen r.changes w.lane]).commitReport
        { w with swapped := true } := by
  simp only [State.swapReport, hw]

theorem State.swapDone_of_commit (b : Block) : s.swapDone b true = s.commitReport (w.swapDone b) := by
  simp only [State.swapDone, hw]

theorem State.reconcileDone_of_commit (b : Block) : s.reconcileDone b = s.commitReport (w.reconcileDone b) := by
  simp only [State.reconcileDone, hw]

end Commit

/-- Settles O57. -/
theorem commitsAndRestartsFollowTheirReports : Obligations.CommitsAndRestartsFollowTheirReports := by
  refine ⟨fun s h hhand => reports_defer hhand, reports_lack, fun s t => ⟨fun w hw => ?_, fun k => ?_⟩⟩
  · intro report
    have hreport : ∀ (w' : CommitWork) (u : State), u.agt.progress = s.agt.progress → u.commitReport w' = report w' u := by
      intro w' u hu
      rw [State.commitReport_eq, hu]
      simp only [report]
      cases s.agt.progress <;> rfl
    have hagent : ∀ {α : Type} {sel : Msg → Option α} {a : α}, s.agentTakes sel a t →
        t.agt.commit = some w ∧ t.agt.progress = s.agt.progress := by
      intro α sel a h
      obtain ⟨d, hd⟩ := State.agentTakes_agent h
      exact ⟨by rw [hd, hw], by rw [hd]⟩
    refine ⟨fun l h => ?_, fun r h => ?_, fun h => ?_, fun h => ?_, fun h => ?_, fun h => ?_⟩
    · obtain ⟨hcommit, -⟩ := hagent h
      show execPreferredLaneAnswer s = _
      rw [execPreferredLaneAnswer, State.agentEvent_takes _ h, State.laneAnswer_of_commit hcommit] <;> rfl
    · obtain ⟨hcommit, hprogress⟩ := hagent h
      show execSwapReport s = _
      rw [execSwapReport, State.agentEvent_takes _ h, State.swapReport_of_commit hcommit]
      exact congrArg Host.Outcome.next (hreport _ _ hprogress)
    · obtain ⟨hcommit, hprogress⟩ := hagent h
      show execSwapDone .admission s = _
      rw [execSwapDone, State.agentEvent_takes _ h, State.swapDone_of_commit hcommit, hreport _ _ hprogress] <;> rfl
    · obtain ⟨hcommit, hprogress⟩ := hagent h
      show execSwapDone .egress s = _
      rw [execSwapDone, State.agentEvent_takes _ h, State.swapDone_of_commit hcommit, hreport _ _ hprogress] <;> rfl
    · obtain ⟨hcommit, hprogress⟩ := hagent h
      show execReconciliationDone .merge s = _
      rw [execReconciliationDone, State.agentEvent_takes _ h, State.reconcileDone_of_commit hcommit,
        hreport _ _ hprogress] <;> rfl
    · obtain ⟨hcommit, hprogress⟩ := hagent h
      show execReconciliationDone .replicator s = _
      rw [execReconciliationDone, State.agentEvent_takes _ h, State.reconcileDone_of_commit hcommit,
        hreport _ _ hprogress] <;> rfl
  · intro asks later
    have hlater : secondGroup k = later := by cases k <;> rfl
    refine ⟨fun hrestart h => ?_, fun b w h => ⟨fun hrestart => ?_, fun hrestart => ?_⟩⟩
    · obtain ⟨d, hd⟩ := State.agentTakes_agent h
      obtain ⟨-, hclock⟩ := State.agentTakes_node h
      show execWatchReturned s = _
      have hrestart' : t.agt.restart = some { kind := k, phase := .replying } := by rw [hd, hrestart]
      rw [execWatchReturned, State.agentEvent_takes _ h, State.restartEvent_of_replying hrestart']
      cases k with
      | traffic => rfl
      | full =>
        have hfull : t.agt.fullPart t.clock.millis =
            { Agent.powerOn s.clock.millis with
              mode := s.agt.mode, progress := s.agt.progress, restart := t.agt.restart, output := s.agt.output,
              deferred := t.agt.deferred } := by
          rw [Agent.fullPart, hclock, hd]
        simp only [hfull] <;> rfl
    · obtain ⟨d, hd⟩ := State.agentTakes_agent h
      show execRestartDone b s = _
      have hrestart' : t.agt.restart = some { kind := k, phase := .first w } := by rw [hd, hrestart]
      rw [execRestartDone, State.agentEvent_takes _ h, State.restartReport_first hrestart', hlater] <;> rfl
    · obtain ⟨d, hd⟩ := State.agentTakes_agent h
      obtain ⟨-, hclock⟩ := State.agentTakes_node h
      show execRestartDone b s = _
      have hrestart' : t.agt.restart = some { kind := k, phase := .second w } := by rw [hd, hrestart]
      rw [execRestartDone, State.agentEvent_takes _ h, State.restartReport_second hrestart']
      have hsession : t.agt.session = s.agt.session := by rw [hd]
      have hparams : t.agt.params = s.agt.params := by rw [hd]
      cases k with
      | traffic =>
        have hend : t.restartEnd .traffic =
            { t with
              agt :=
                { t.agt with
                  progress := none, restart := none, mode := .session,
                  session := s.agt.session.map fun x =>
                    { x with timer := some (s.clock.millis + 1000 * s.agt.params.sessionTimeout) } } } := by
          rw [← hsession, ← hparams, ← hclock]
          rfl
        rw [hend] <;> rfl
      | full =>
        have hend : t.restartEnd .full =
            { t with
              agt :=
                { t.agt with progress := none, restart := none, mode := .noSession, session := s.agt.session } } := by
          rw [← hsession]
          rfl
        rw [hend] <;> rfl

end Sys2Proof.Machine
end

section
set_option Elab.async false
/-! The check of the shadow: its reads, its completion and its verdict (R16, R188 to R192). -/

namespace Sys2Proof.Machine

/-! ## The verdict (R189) -/

/-- A directory record breaks none of the constraints of R189. -/
def CheckWork.RecordOk (w : CheckWork) (node : Byte) (d : DirRecord) : Prop :=
  d.key ≠ ownRequestKey node ∧ d.key ≠ ownReplyKey node ∧
    (∀ i, d.policer = some i → w.policers.lookup i = some true) ∧ 0 < w.quota d.pool

section Records
variable {w : CheckWork} {node : Byte} {d : DirRecord}

theorem CheckWork.recordFault_of_key (h : d.key = ownRequestKey node ∨ d.key = ownReplyKey node) :
    w.recordFault node d = some .reservedKey := if_pos h

/-- The policer test of a record. -/
theorem CheckWork.policer_test :
    (match d.policer with | some i => w.policers.lookup i != some true | none => false) = true ↔
      ∃ i, d.policer = some i ∧ w.policers.lookup i ≠ some true := by
  cases hp : d.policer <;> simp

theorem CheckWork.recordFault_of_policer (hkey : ¬ (d.key = ownRequestKey node ∨ d.key = ownReplyKey node))
    (h : ∃ i, d.policer = some i ∧ w.policers.lookup i ≠ some true) :
    w.recordFault node d = some .policerDisabled := by
  unfold CheckWork.recordFault
  rw [if_neg hkey]
  exact if_pos (CheckWork.policer_test.mpr h)

theorem CheckWork.recordFault_of_policed (hkey : ¬ (d.key = ownRequestKey node ∨ d.key = ownReplyKey node))
    (h : ∀ i, d.policer = some i → w.policers.lookup i = some true) :
    w.recordFault node d = if w.quota d.pool = 0 then some .poolEmpty else none := by
  unfold CheckWork.recordFault
  rw [if_neg hkey]
  exact if_neg fun htest => (CheckWork.policer_test.mp htest).elim fun i hi => hi.2 (h i hi.1)

theorem CheckWork.recordFault_eq_none_iff : w.recordFault node d = none ↔ w.RecordOk node d := by
  by_cases hkey : d.key = ownRequestKey node ∨ d.key = ownReplyKey node
  · rw [CheckWork.recordFault_of_key hkey]
    exact ⟨nofun, fun ⟨hrequest, hreply, _⟩ => (hkey.elim hrequest hreply).elim⟩
  · have hkeys := not_or.mp hkey
    by_cases hpolicer : ∃ i, d.policer = some i ∧ w.policers.lookup i ≠ some true
    · rw [CheckWork.recordFault_of_policer hkey hpolicer]
      obtain ⟨i, hi, hne⟩ := hpolicer
      exact ⟨nofun, fun ⟨_, _, hall, _⟩ => (hne (hall i hi)).elim⟩
    · have hall : ∀ i, d.policer = some i → w.policers.lookup i = some true := fun i hi =>
        by_contra fun hne => hpolicer ⟨i, hi, hne⟩
      rw [CheckWork.recordFault_of_policed hkey hall]
      by_cases hquota : w.quota d.pool = 0
      · simp [CheckWork.RecordOk, hquota]
      · simp only [if_neg hquota, true_iff]
        exact ⟨hkeys.1, hkeys.2, hall, Nat.pos_of_ne_zero hquota⟩

end Records

section Verdict
variable {w : CheckWork} {node : Byte}

theorem CheckWork.recordsFault_eq_none_iff {i : Nat} {rs : List DirRecord} :
    w.recordsFault node i rs = none ↔ ∀ d ∈ rs, w.RecordOk node d := by
  induction rs generalizing i with
  | nil => simp [CheckWork.recordsFault]
  | cons d rs ih =>
    rw [List.forall_mem_cons, ← CheckWork.recordFault_eq_none_iff, ← ih (i := i + 1)]
    simp only [CheckWork.recordsFault]
    cases w.recordFault node d <;> simp

theorem CheckWork.recordsFault_of_split {i : Nat} {pre post : List DirRecord} {d : DirRecord} {f : Reason}
    (hpre : ∀ x ∈ pre, w.RecordOk node x) (hd : w.recordFault node d = some f) :
    w.recordsFault node i (pre ++ d :: post) = some (f, i + pre.length) := by
  induction pre generalizing i with
  | nil => simp [CheckWork.recordsFault, hd]
  | cons x pre ih =>
    have hx := CheckWork.recordFault_eq_none_iff.mpr (hpre x List.mem_cons_self)
    have hrest := ih (i := i + 1) fun y hy => hpre y (List.mem_cons_of_mem x hy)
    simp only [List.cons_append, CheckWork.recordsFault, hx, hrest, List.length_cons]
    congr 2
    omega

/-- The first record that fails decides the verdict. -/
theorem CheckWork.fault_of_record {pre post : List DirRecord} {d : DirRecord} {f : Reason}
    (hrecords : w.records = pre ++ d :: post) (hpre : ∀ x ∈ pre, w.RecordOk node x)
    (hd : w.recordFault node d = some f) : w.fault node = some (f, pre.length) := by
  have h := CheckWork.recordsFault_of_split (i := 0) (post := post) hpre hd
  rw [← hrecords, Nat.zero_add] at h
  simp only [CheckWork.fault, h]

/-- The shadow limits of a port together. -/
def CheckWork.portSum (w : CheckWork) (p : Port) : Nat := w.limit p .c0 + w.limit p .c1 + w.limit p .c2 + w.limit p .c3

theorem CheckWork.limits_sum (p : Port) : (allClasses.map (w.limit p)).sum = w.portSum p := by
  simp [allClasses, CheckWork.portSum, Nat.add_assoc]

theorem CheckWork.queueFault_eq :
    w.queueFault =
      if 160 < w.portSum .l0 then some (.queueSum, 0)
      else if 160 < w.portSum .l1 then some (.queueSum, 1)
      else if 160 < w.portSum .t then some (.queueSum, 2)
      else none := by
  have hslots : Config.slots = 160 := rfl
  simp only [CheckWork.queueFault, CheckWork.limits_sum, hslots, allPorts, List.find?_cons, List.find?_nil]
  by_cases h0 : 160 < w.portSum .l0
  · simp [h0, portCode]
  · by_cases h1 : 160 < w.portSum .l1
    · simp [h0, h1, portCode]
    · by_cases h2 : 160 < w.portSum .t <;> simp [h0, h1, h2, portCode]

theorem CheckWork.queueFault_eq_none_iff : w.queueFault = none ↔ ∀ p, w.portSum p ≤ 160 := by
  rw [CheckWork.queueFault_eq]
  constructor
  · intro h p
    split at h
    · cases h
    split at h
    · cases h
    split at h
    · cases h
    cases p <;> omega
  · intro h
    rw [if_neg (Nat.not_lt.mpr (h .l0)), if_neg (Nat.not_lt.mpr (h .l1)), if_neg (Nat.not_lt.mpr (h .t))]

/-- With every record right, pools, queues and the unknown pool decide, in this order. -/
theorem CheckWork.fault_of_records (h : ∀ d ∈ w.records, w.RecordOk node d) :
    w.fault node =
      if 2032 < ((List.finRange 8).map w.quota).sum then some (.poolSum, 0)
      else w.queueFault.orElse fun _ =>
        w.unknownPool.bind fun i => if w.quota i = 0 then some (.unknownPoolEmpty, 0) else none := by
  simp only [CheckWork.fault, CheckWork.recordsFault_eq_none_iff.mpr h]
  have hsum : Config.quotaSum = 2032 := rfl
  rw [hsum, allPools]
  split
  · rfl
  · cases w.queueFault with
    | some e => rfl
    | none => cases w.unknownPool <;> rfl

theorem CheckWork.fault_eq_none_iff :
    w.fault node = none ↔
      (∀ d ∈ w.records, w.RecordOk node d) ∧ ((List.finRange 8).map w.quota).sum ≤ 2032 ∧ (∀ p, w.portSum p ≤ 160) ∧
        ∀ i, w.unknownPool = some i → 0 < w.quota i := by
  by_cases hrecords : ∀ d ∈ w.records, w.RecordOk node d
  · rw [CheckWork.fault_of_records hrecords, ← CheckWork.queueFault_eq_none_iff]
    by_cases hsum : 2032 < ((List.finRange 8).map w.quota).sum
    · simp [hsum]
    · cases hqueue : w.queueFault with
      | some e => simp [hsum]
      | none =>
        cases hpool : w.unknownPool with
        | none => simpa [hsum, Nat.le_of_not_lt hsum] using hrecords
        | some i =>
          by_cases hquota : w.quota i = 0
          · simp [hsum, hquota]
          · simpa [hsum, hquota, Nat.le_of_not_lt hsum, Nat.pos_of_ne_zero hquota] using hrecords
  · refine ⟨fun h => ?_, fun h => (hrecords h.1).elim⟩
    cases hfault : w.recordsFault node 0 w.records with
    | none => exact (hrecords (CheckWork.recordsFault_eq_none_iff.mp hfault)).elim
    | some e => simp [CheckWork.fault, hfault] at h

end Verdict

/-! ## The reads (R188, R190, R192) -/

/-- The key a further next-read starts from: a full answer may have more behind it (R188). -/
theorem nextStart_eq {ds : List DirRecord} (h : ds.length ≤ 8) :
    nextStart ds = if ds.length = 8 then ds.getLast?.map fun d => d.key else none := by
  unfold nextStart
  by_cases hfull : ds.length = 8
  · rw [if_neg (by omega), if_pos hfull]
  · rw [if_pos (by omega), if_neg hfull]

/-- Records entered into the check, and the reads that follow from them. -/
theorem CheckWork.addRecords_eq (w : CheckWork) {ds : List DirRecord} (h : ds.length ≤ 8) :
    w.addRecords ds =
      let ps := ((ds.filterMap fun d => d.policer).dedup).filter fun i =>
        (w.policers.lookup i).isNone && !w.waiting.contains (.policer i)
      let more := if ds.length = 8 then ds.getLast?.map fun d => d.key else none
      ({ w with
          records := w.records ++ ds,
          waiting := w.waiting ++ (more.toList.map fun _ => .records) ++ ps.map .policer },
        (more.toList.map fun k => .nextRead .check .shadow k 8) ++
          ps.map fun i => .entryRead .check .shadow (.policer i)) := by
  simp only [CheckWork.addRecords, nextStart_eq h]
  cases (if ds.length = 8 then ds.getLast?.map fun d => d.key else none) <;> rfl

section Answer
variable {s b : State} {r : CheckRead} {a : ReadAnswer} {w : CheckWork}

theorem execCheckReadAnswer_of_takes (h : s.agentTakes (selCheckAns r) a b) (hw : b.agt.check = some w) :
    execCheckReadAnswer r s =
      .next (
        let t := (b.withAgt { b.agt with check := some (w.entered r a) }).send (w.nextReads r a)
        if (w.entered r a).waiting = [] then t.checkDone (w.entered r a) else t) := by
  rw [execCheckReadAnswer, State.agentEvent_takes _ h, State.checkAnswer_of_check hw]
  simp only [ite_isEmpty]

end Answer

section Completion
variable {s : State} {w : CheckWork} {q : InProgress} (hq : s.agt.progress = some q)
include hq

theorem State.checkDone_of_fault {f : Reason} {i : Nat} (h : w.fault s.node = some (f, i)) :
    s.checkDone w = (s.withAgt { s.agt with check := none }).answerProgress q .invalid (4096 * reasonCode f + i) := by
  simp only [State.checkDone, State.withAgt, hq, h, detailOf]

theorem State.checkDone_of_passed (h : w.fault s.node = none) :
    s.checkDone w =
      let t := s.withAgt { s.agt with check := none, shadow := .checked s.agt.shadow.remainder }
      match q.kind with
      | .commit => t.beginCommit
      | _ => t.answerProgress q .ok 0 := by
  simp only [State.checkDone, State.withAgt, hq, h] <;> rfl

end Completion

/-- Settles O56. -/
theorem checksReadAndJudgeTheShadow : Obligations.ChecksReadAndJudgeTheShadow := by
  refine ⟨fun α s sel k => ⟨fun h m rest hhand htake => ?_, fun a rest hhand htake => ?_, fun hhand htake => ?_⟩,
    fun s r => ⟨fun h hhand => ?_, fun h => ?_⟩, fun s b r a w q h hw hq => ?_, fun w node => ?_⟩
  · rw [State.agentEvent_of_hand k hhand, htake] <;> rfl
  · rw [State.agentEvent_of_idle k hhand, htake] <;> rfl
  · rw [State.agentEvent_of_idle k hhand, htake]
  · show execCheckReadAnswer r s = _
    refine (State.agentEvent_defers _ hhand selCheckAns_message).trans ?_
    cases takeFirst (selCheckAns r) s.net <;> rfl
  · show execCheckReadAnswer r s = _
    exact State.agentEvent_lacks _ h
  · intro w0 next hds
    have hnext : next = (w.entered r a, w.nextReads r a) := by
      cases a with
      | records ds => exact (w0.addRecords_eq (hds ds rfl)).symm
      | device d => cases d <;> rfl
      | _ => rfl
    clear_value next
    subst hnext
    obtain ⟨d, hagent⟩ := State.agentTakes_agent h
    obtain ⟨hnode, -⟩ := State.agentTakes_node h
    have hcheck : b.agt.check = some w := by rw [hagent, hw]
    have hprogress : b.agt.progress = some q := by rw [hagent, hq]
    have hshadow : b.agt.shadow = s.agt.shadow := by rw [hagent]
    have hsession : b.agt.session = s.agt.session := by rw [hagent]
    have hhand : b.agt.hand = none := by rw [hagent, h.1]
    have hexec := execCheckReadAnswer_of_takes h hcheck
    refine ⟨fun hmore => ?_, fun hlast => ?_⟩
    · show execCheckReadAnswer r s = _
      exact hexec.trans (congrArg Host.Outcome.next (if_neg hmore))
    · intro ended
      have hdone := hexec.trans (congrArg Host.Outcome.next (if_pos hlast))
      rw [← hnode, ← hshadow]
      simp only [ended, ← hsession]
      refine ⟨fun f i hfault => ?_, fun hfault hkind => ?_, fun hfault hkind => ?_⟩
      · exact hdone.trans (congrArg Host.Outcome.next
          (State.checkDone_of_fault (s := (b.withAgt _).send _) hprogress hfault))
      · refine hdone.trans (congrArg Host.Outcome.next
          ((State.checkDone_of_passed (s := (b.withAgt _).send _) hprogress hfault).trans ?_))
        simp only [hkind] <;> rfl
      · refine hdone.trans (congrArg Host.Outcome.next
          ((State.checkDone_of_passed (s := (b.withAgt _).send _) hprogress hfault).trans ?_))
        simp only [hkind, hhand] <;> rfl
  · intro recordOk sum
    refine ⟨CheckWork.fault_eq_none_iff, fun pre d post hrecords hpre => ⟨fun hkey => ?_, fun hkey hpolicer => ?_,
      fun hkey hall hquota => ?_⟩, fun hrecords => ?_⟩
    · exact CheckWork.fault_of_record hrecords hpre (CheckWork.recordFault_of_key hkey)
    · exact CheckWork.fault_of_record hrecords hpre (CheckWork.recordFault_of_policer hkey hpolicer)
    · exact CheckWork.fault_of_record hrecords hpre
        ((CheckWork.recordFault_of_policed hkey hall).trans (if_pos hquota))
    · intro quotas
      have hfault := CheckWork.fault_of_records (node := node) hrecords
      refine ⟨fun hsum => hfault.trans (if_pos hsum), fun hsum => ?_⟩
      rw [if_neg (Nat.not_lt.mpr hsum)] at hfault
      have hno : ∀ p, sum p ≤ 160 → ¬ 160 < w.portSum p := fun p h => Nat.not_lt.mpr h
      refine ⟨fun h0 => ?_, fun h0 h1 => ?_, fun h0 h1 h2 => ?_, fun hports i hpool hquota => ?_⟩
      · have hqueue : w.queueFault = some (.queueSum, 0) := CheckWork.queueFault_eq.trans (if_pos h0)
        rw [hfault, hqueue]
        rfl
      · have hqueue : w.queueFault = some (.queueSum, 1) := by
          rw [CheckWork.queueFault_eq, if_neg (hno _ h0)]
          exact if_pos h1
        rw [hfault, hqueue]
        rfl
      · have hqueue : w.queueFault = some (.queueSum, 2) := by
          rw [CheckWork.queueFault_eq, if_neg (hno _ h0), if_neg (hno _ h1)]
          exact if_pos h2
        rw [hfault, hqueue]
        rfl
      · rw [hfault, CheckWork.queueFault_eq_none_iff.mpr hports, hpool]
        exact if_pos hquota

end Sys2Proof.Machine
end

section
set_option Elab.async false
/-! The answers that carry the request in hand to its reply (R163, R169 to R172, R180 to R187, R204 to R208). -/

namespace Sys2Proof.Machine

/-! ## The results (R17, R204 to R207) -/

theorem toBE_one (n : Nat) : toBE 1 n = [BitVec.ofNat 8 n] := by simp [toBE]

theorem countersOf_of_lookup {got : List (Block × ReadAnswer)} {b : Block} {cs : List Word32}
    (h : got.lookup b = some (.counters cs)) : countersOf got b = cs := by
  simp only [countersOf, h]

theorem gotUp_of_lookup {got : List (Block × ReadAnswer)} {p : Port} {l : Link}
    (h : got.lookup (.receiver p) = some (.link l)) : gotUp got p = (l == .up) := by
  rw [gotUp, h]
  cases l <;> rfl

theorem noticeHead_eq (e : NoticeEntry) :
    noticeHead e =
      [BitVec.ofNat 8 (match e.kind with
        | .laneChange => 1 | .unknownStream => 2 | .poolExhausted => 3 | .holdExhausted => 4 | .streamReset => 5
        | .crossedLane => 6 | .sessionEnd => 7), 0] ++
        toBE 2 e.count ++ toBE 4 e.detail.toNat ++ toBE 4 e.time.toNat := by
  rw [noticeHead, toBE_one]
  rfl

/-- The results of READ-STATS and STATUS are laid out as R17 says. -/
theorem results_layout :
    let sum (x y : Word32) : Word32 := BitVec.ofNat 32 (min (x.toNat + y.toNat) 4294967295)
    (∀ (p : List Byte) (cs : List Word32),
      scopeBytes p = (p.drop 9).take 5 ∧
        counterBytes cs = BitVec.ofNat 8 cs.length :: cs.flatMap fun x => toBE 4 x.toNat) ∧
    (∀ (q : Port) (got : List (Block × ReadAnswer)) (a b c d o x y z : Word32),
      got.lookup (.receiver q) = some (.counters [a, b, c, d]) → got.lookup .classifier = some (.counters [o]) →
      got.lookup .egress = some (.counters [x, y, z]) → portCounters q got = [a, b, c, sum d o, x, y, z]) ∧
    (∀ (got : List (Block × ReadAnswer)) (c0 c1 c2 c3 c4 c5 c6 c7 c8 m w u own : Word32),
      got.lookup .classifier = some (.counters [c0, c1, c2, c3, c4, c5, c6, c7, c8]) →
      got.lookup .merge = some (.counters [m]) → got.lookup .replicator = some (.counters [w, u]) →
      deviceCounters own got = [c0, c1, c2, c3, c4, c5, c6, c7, sum m w, c8, sum u own]) ∧
    (∀ (b : Block) (cs : List Word32) (overRate noBuffer : Word32), b = .merge ∨ b = .replicator →
      keyCounters [(b, .counters cs), (.admission, .counters [overRate, noBuffer])] = cs ++ [overRate, noBuffer]) := by
  intro sum
  refine ⟨fun p cs => ⟨rfl, ?_⟩, fun q got a b c d o x y z hr hc he => ?_,
    fun got c0 c1 c2 c3 c4 c5 c6 c7 c8 m w u own hc hm hr => ?_, fun b cs overRate noBuffer hb => ?_⟩
  · rw [counterBytes, toBE_one]
    rfl
  · simp only [portCounters, countersOf_of_lookup hr, countersOf_of_lookup hc, countersOf_of_lookup he]
    rfl
  · simp only [deviceCounters, countersOf_of_lookup hr, countersOf_of_lookup hc, countersOf_of_lookup hm]
    rfl
  · obtain rfl | rfl := hb
    · show cs ++ [] ++ [overRate, noBuffer] = cs ++ [overRate, noBuffer]
      rw [List.append_nil]
    · rfl

theorem statusBytes_layout (node : Byte) (a : Agent) (got : List (Block × ReadAnswer)) (l0 l1 lt : Link)
    (free reserve holds : Nat) (pools : Vector Nat 8) (h0 : got.lookup (.receiver .l0) = some (.link l0))
    (h1 : got.lookup (.receiver .l1) = some (.link l1)) (ht : got.lookup (.receiver .t) = some (.link lt))
    (hmem : got.lookup .admission = some (.memory free reserve pools)) (hholds : got.lookup .merge = some (.holds holds)) :
    let up (st : Link) (n : Nat) : Nat := match st with | .up => n | .down => 0
    statusBytes node a got =
      [node,
        (match a.mode with | .noSession => 0 | .session => 1 | .checking => 2 | .committing => 3 | .restarting => 4),
        (match a.shadow with | .absent => 0 | .dirty _ => 1 | .checked _ => 2),
        (match a.session with | none => 0 | some _ => 1), BitVec.ofNat 8 (up l0 1 + up l1 2 + up lt 4), 0] ++
        toBE 2 free ++ toBE 2 reserve ++ toBE 2 holds ++ (pools.toList.flatMap fun n => toBE 2 n) ++
        [BitVec.ofNat 8 a.notices.length, 0] ++
        a.notices.flatMap fun e =>
          [BitVec.ofNat 8 (match e.kind with
             | .laneChange => 1 | .unknownStream => 2 | .poolExhausted => 3 | .holdExhausted => 4 | .streamReset => 5
             | .crossedLane => 6 | .sessionEnd => 7), 0] ++
            toBE 2 e.count ++ toBE 4 e.detail.toNat ++ toBE 4 e.time.toNat := by
  intro up
  have hmode : BitVec.ofNat 8 (modeCode a.mode) =
      (match a.mode with | .noSession => 0 | .session => 1 | .checking => 2 | .committing => 3 | .restarting => 4) := by
    cases a.mode <;> rfl
  have hshadow : BitVec.ofNat 8 (shadowCode a.shadow) =
      (match a.shadow with | .absent => 0 | .dirty _ => 1 | .checked _ => 2) := by
    cases a.shadow <;> rfl
  have hsession : BitVec.ofNat 8 (flag a.session.isSome) = (match a.session with | none => 0 | some _ => 1) := by
    cases a.session <;> rfl
  have hlinks : flag (gotUp got .l0) + 2 * flag (gotUp got .l1) + 4 * flag (gotUp got .t) = up l0 1 + up l1 2 + up lt 4 := by
    rw [gotUp_of_lookup h0, gotUp_of_lookup h1, gotUp_of_lookup ht]
    cases l0 <;> cases l1 <;> cases lt <;> rfl
  have hnotices : a.notices.flatMap noticeHead = a.notices.flatMap fun e => noticeHead e := rfl
  simp only [statusBytes, hmem, hholds, toBE_one, hmode, hshadow, hsession, hlinks, hnotices, noticeHead_eq]
  simp only [List.append_assoc, List.cons_append, List.nil_append]

/-! ## The answers, by the stage of the request in hand -/

theorem Agent.setStage_of_hand {a : Agent} {h : AgentHand} (hhand : a.hand = some h) (g : HandStage) :
    a.setStage g = { a with hand := some { h with stage := g } } := by
  simp only [Agent.setStage, hhand, Option.map_some]

section InHand
variable {s : State} {h : AgentHand} (hhand : s.agt.hand = some h)
include hhand

theorem State.createAnswer_of_stage {r : Req} {w : List Block} (hstage : h.stage = .creating r w) (b : Block) :
    s.createAnswer b =
      if w.erase b = [] then (s.withAgt { s.agt with hand := some { h with stage := .writing true } }).send (writeOf r)
      else s.withAgt { s.agt with hand := some { h with stage := .creating r (w.erase b) } } := by
  rw [← Agent.setStage_of_hand hhand, ← Agent.setStage_of_hand hhand]
  obtain ⟨side, payload, stage⟩ := h
  cases hstage
  simp only [State.createAnswer, hhand, ite_isEmpty]

theorem State.writeAnswer_of_stage {fresh : Bool} (hstage : h.stage = .writing fresh) (r : WriteResult) :
    s.writeAnswer r =
      if r = .done then
        (s.withAgt { s.agt with shadow := .dirty (crcRun s.agt.shadow.remainder (recordArea h.payload)) }).answer h .ok 0 []
      else if fresh = true then
        (s.withAgt { s.agt with hand := some { h with stage := .discarding } }).discardShadow (.undo r)
      else s.answer h (refusedWrite r).1 (refusedWrite r).2 [] := by
  rw [← Agent.setStage_of_hand hhand]
  obtain ⟨side, payload, stage⟩ := h
  cases hstage
  cases r <;> cases fresh <;> simp only [State.writeAnswer, hhand] <;> rfl

/-- An answer to a read of a request other than a READ-STATS of a key: kept until the last (R157). -/
theorem State.readAnswer_of_stage {r : Req} {w : List Block} {got : List (Block × ReadAnswer)}
    (hstage : h.stage = .reading r w got) (hr : ∀ k clear, r ≠ .statsKey k clear) (b : Block) (a : ReadAnswer) :
    s.readAnswer b a =
      if w.erase b = [] then s.readsDone h r (got ++ [(b, a)])
      else s.withAgt { s.agt with hand := some { h with stage := .reading r (w.erase b) (got ++ [(b, a)]) } } := by
  rw [← Agent.setStage_of_hand hhand]
  obtain ⟨side, payload, stage⟩ := h
  cases hstage
  cases r with
  | statsKey k clear => exact absurd rfl (hr k clear)
  | _ => simp only [State.readAnswer, hhand, ite_isEmpty]

/-- An answer to a read of a READ-STATS of a key (R171). -/
theorem State.readAnswer_of_statsKey {k : Key} {clear : Bool} {w : List Block} {got : List (Block × ReadAnswer)}
    (hstage : h.stage = .reading (.statsKey k clear) w got) (b : Block) (a : ReadAnswer) :
    let stage (g : HandStage) : State := s.withAgt { s.agt with hand := some { h with stage := g } }
    s.readAnswer b a = match b, a with
      | .merge, .counters cs =>
        (stage (.reading (.statsKey k clear) [.admission] (got ++ [(.merge, .counters cs)]))).send
          [.counterRead .admission (.key k .inbound) clear]
      | .merge, _ =>
        (stage (.reading (.statsKey k clear) [.replicator] [])).send [.counterRead .replicator (.key k .outbound) clear]
      | .replicator, .counters cs =>
        (stage (.reading (.statsKey k clear) [.admission] (got ++ [(.replicator, .counters cs)]))).send
          [.counterRead .admission (.key k .outbound) clear]
      | .replicator, _ => s.answer h .notFound 0 []
      | _, _ =>
        if w.erase b = [] then
          s.answer h .ok 0 (scopeBytes h.payload ++ counterBytes (keyCounters (got ++ [(b, a)])))
        else stage (.reading (.statsKey k clear) (w.erase b) (got ++ [(b, a)])) := by
  intro stage
  have hset : ∀ g, s.withAgt (s.agt.setStage g) = stage g := fun g => by rw [Agent.setStage_of_hand hhand]
  obtain ⟨side, payload, st⟩ := h
  cases hstage
  cases b with
  | merge => cases a <;> simp only [State.readAnswer, hhand, hset]
  | replicator => cases a <;> simp only [State.readAnswer, hhand, hset]
  | _ => simp only [State.readAnswer, hhand, hset, ite_isEmpty] <;> rfl

end InHand

section Discard
variable {s : State} {d : DiscardWork} (hdiscard : s.agt.discard = some d)
include hdiscard

theorem State.discardAnswer_of_more {b : Block} (hmore : d.waiting.erase b ≠ []) :
    s.discardAnswer b =
      s.withAgt { s.agt with discard := some { waiting := d.waiting.erase b, why := d.why } } := by
  simp only [State.discardAnswer, hdiscard, ite_isEmpty, if_neg hmore]

theorem State.discardAnswer_of_last {b : Block} (hlast : d.waiting.erase b = []) :
    s.discardAnswer b = (s.withAgt { s.agt with discard := none }).discardDone d.why := by
  simp only [State.discardAnswer, hdiscard, ite_isEmpty, if_pos hlast]

end Discard

/-- What follows the last discard answer, for the request in hand (R163, R180, R187). -/
theorem State.discardDone_of_hand {s : State} {h : AgentHand} (hhand : s.agt.hand = some h) :
    s.discardDone .closing = s.answer h .ok 0 [] ∧
      s.discardDone .abandoning = (s.withAgt { s.agt with shadow := .absent }).answer h .ok 0 [] ∧
      ∀ r, s.discardDone (.undo r) = s.answer h (refusedWrite r).1 (refusedWrite r).2 [] := by
  refine ⟨?_, ?_, fun r => ?_⟩ <;> simp only [State.discardDone, hhand]

/-- Settles O55. -/
theorem answersCarryTheRequestInHandOn : Obligations.AnswersCarryTheRequestInHandOn := by
  refine ⟨?_, fun s rest h b hhand => ?_, fun s rest b d hdiscard htake => ?_⟩
  · intro sum
    obtain ⟨hstats, hport, hdevice, hkey⟩ := results_layout
    exact ⟨hstats, hport, hdevice, hkey, statusBytes_layout⟩
  · intro stage
    have hhand' : (State.agt { s with net := rest }).hand = some h := hhand
    refine ⟨fun c r w hstage htake => ?_, fun r fresh hstage htake => ?_, fun r a hstage htake hplain => ?_,
      fun k clear w got a hstage htake => ?_, fun r w got a hstage htake => ?_⟩
    · show execShadowCreateAnswer b s = _
      refine Eq.trans (State.onMsg_of_takeFirst _ htake) (congrArg Host.Outcome.next ?_)
      refine (State.createAnswer_of_stage hhand' hstage b).trans ?_
      simp only [stage, State.took, List.append_nil] <;> rfl
    · show execShadowWriteAnswer b s = _
      refine Eq.trans (State.onMsg_of_takeFirst _ htake) (congrArg Host.Outcome.next ?_)
      refine (State.writeAnswer_of_stage hhand' hstage r).trans ?_
      simp only [stage, State.took, List.append_nil]
      cases r <;> cases fresh <;> rfl
    · show execOwnerReadAnswer b s = _
      refine Eq.trans (State.onMsg_of_takeFirst _ htake) (congrArg Host.Outcome.next ?_)
      have hkey : ∀ k clear, r ≠ .statsKey k clear := by
        rintro k clear rfl
        exact hplain
      have hdone : State.readsDone { s with net := rest } h r [(b, a)] =
          State.answer { s with net := rest } h (readReply a).1 0 (readReply a).2 := by
        cases r with
        | statsKey | statsPort | statsDevice | status => exact hplain.elim
        | _ => rfl
      have hlast : [b].erase b = [] := List.erase_cons_head b []
      refine (State.readAnswer_of_stage hhand' hstage hkey b a).trans ((if_pos hlast).trans (hdone.trans ?_))
      simp only [State.took, List.append_nil]
      cases a with
      | policer e credit => cases credit <;> rfl
      | _ => rfl
    · show execOwnerReadAnswer b s = _
      refine Eq.trans (State.onMsg_of_takeFirst _ htake) (congrArg Host.Outcome.next ?_)
      refine (State.readAnswer_of_statsKey hhand' hstage b a).trans ?_
      simp only [stage, State.took, List.append_nil]
      cases b <;> cases a <;> rfl
    · intro more
      have hmore : more = State.withAgt { s with net := rest }
          { s.agt with hand := some { h with stage := .reading r (w.erase b) (got ++ [(b, a)]) } } := by
        simp only [more, stage, State.took, List.append_nil] <;> rfl
      have hexec : (∀ k clear, r ≠ .statsKey k clear) → exec (.ownerReadAnswer b) s = .next
          (if w.erase b = [] then State.readsDone { s with net := rest } h r (got ++ [(b, a)]) else more) := by
        intro hkey
        show execOwnerReadAnswer b s = _
        rw [hmore]
        exact Eq.trans (State.onMsg_of_takeFirst _ htake)
          (congrArg Host.Outcome.next (State.readAnswer_of_stage hhand' hstage hkey b a))
      have htook : s.took rest [] = { s with net := rest } := by simp only [State.took, List.append_nil]
      rw [htook]
      refine ⟨fun q clear hr => ?_, fun clear hr => ?_, fun hr => ?_⟩
      · subst hr
        exact hexec nofun
      · subst hr
        refine (hexec nofun).trans ?_
        cases clear <;> rfl
      · subst hr
        exact hexec nofun
  · intro done
    have hexec : exec (.shadowDiscardAnswer b) s = .next (State.discardAnswer { s with net := rest } b) := by
      show execShadowDiscardAnswer b s = _
      exact State.onMsg_of_takeFirst _ htake
    have htook : s.took rest [] = { s with net := rest } := by simp only [State.took, List.append_nil]
    have hdone : ∀ sh, done sh = State.withAgt { s with net := rest } { s.agt with discard := none, shadow := sh } := by
      intro sh
      simp only [done, htook] <;> rfl
    refine ⟨fun hmore => ?_, fun hlast => ⟨fun hwhy => ?_, fun h hhand => ?_⟩⟩
    · rw [hexec, htook]
      exact congrArg Host.Outcome.next (State.discardAnswer_of_more (s := { s with net := rest }) hdiscard hmore)
    · rw [hexec, hdone]
      refine congrArg Host.Outcome.next ((State.discardAnswer_of_last (s := { s with net := rest }) hdiscard hlast).trans ?_)
      rw [hwhy] <;> rfl
    · obtain ⟨hclosing, habandoning, hundo⟩ := State.discardDone_of_hand (s := done s.agt.shadow) hhand
      have hlast' : exec (.shadowDiscardAnswer b) s = .next ((done s.agt.shadow).discardDone d.why) := by
        rw [hexec, hdone]
        exact congrArg Host.Outcome.next (State.discardAnswer_of_last (s := { s with net := rest }) hdiscard hlast)
      refine ⟨fun hwhy => ?_, fun hwhy => ?_, fun i hwhy => ?_, fun hwhy => ?_⟩
      · rw [hlast', hwhy, hclosing]
      · rw [hlast', hwhy, habandoning] <;> rfl
      · rw [hlast', hwhy, hundo] <;> rfl
      · rw [hlast', hwhy, hundo] <;> rfl

end Sys2Proof.Machine
end

section
set_option Elab.async false
/-! The agent's timers and notices, and its one output (R109, R157, R162 to R168, R174, R175, R210 to R213). -/

namespace Sys2Proof.Machine

/-! ## Timers and notices -/

theorem Agent.expiryDue_iff (a : Agent) (now : Nat) :
    a.expiryDue now = true ↔ a.mode = .session ∧ ∃ x t, a.session = some x ∧ x.timer = some t ∧ t ≤ now := by
  unfold Agent.expiryDue
  split
  · rename_i token e hmode hsession
    simp [hmode, hsession]
  · rename_i hne
    refine ⟨nofun, ?_⟩
    rintro ⟨hmode, x, t, hsession, htimer, -⟩
    obtain ⟨token, timer⟩ := x
    subst htimer
    exact absurd hsession (hne token t hmode)

theorem raiseIn_of_new {now : Word32} {k : NoticeKind} {d : Word32} {ns : List NoticeEntry} (h : ∀ n ∈ ns, n.kind ≠ k) :
    raiseIn now k d ns = ns ++ [{ kind := k, count := 1, detail := d, time := now }] := by
  induction ns with
  | nil => rfl
  | cons n ns ih =>
    rw [raiseIn, if_neg (h n List.mem_cons_self), ih fun m hm => h m (List.mem_cons_of_mem n hm)]
    rfl

theorem raiseIn_of_pending {now : Word32} {k : NoticeKind} {d : Word32} {pre post : List NoticeEntry} {n : NoticeEntry}
    (hpre : ∀ x ∈ pre, x.kind ≠ k) (hn : n.kind = k) :
    raiseIn now k d (pre ++ n :: post) = pre ++ { n with count := min (n.count + 1) 65535 } :: post := by
  induction pre with
  | nil => exact if_pos hn
  | cons x pre ih =>
    rw [List.cons_append, raiseIn, if_neg (hpre x List.mem_cons_self), ih fun y hy => hpre y (List.mem_cons_of_mem x hy)]
    rfl

/-- The handout at a pacing expiry (R211). -/
theorem Agent.handOut_eq (a : Agent) :
    a.handOut = a.notices.head?.elim a fun n =>
      if a.params.noticeDestination = .off ∨ a.handed.isSome = true then a
      else { a with notices := a.notices.tail, handed := some { entry := n, dest := a.params.noticeDestination } } := by
  unfold Agent.handOut
  cases hdest : a.params.noticeDestination <;> cases hnotices : a.notices <;> cases hhanded : a.handed <;> rfl

/-- Settles O59. -/
theorem timersAndNotices : Obligations.TimersAndNotices := by
  refine ⟨fun s x t hmode hsession htimer hdue => ?_, fun s hnot => ?_, fun s hpacing => ?_, fun s k d rest h => ?_,
    fun now k d ns => ⟨raiseIn_of_new, ?_⟩, fun s hpacing => ?_, fun s => rfl⟩
  · have hexpiry : s.agt.expiryDue s.clock.millis = true :=
      (Agent.expiryDue_iff _ _).mpr ⟨hmode, x, t, hsession, htimer, hdue⟩
    show execSessionTimerExpiry s = _
    cases hhand : s.agt.hand with
    | some h =>
      have hbusy : s.agt.hand.isSome = true := by rw [hhand]; rfl
      simp only [execSessionTimerExpiry, if_pos hexpiry, if_pos hbusy] <;> rfl
    | none =>
      have hidle : ¬ s.agt.hand.isSome = true := by simp [hhand]
      simp only [execSessionTimerExpiry, if_pos hexpiry, if_neg hidle] <;> rfl
  · show execSessionTimerExpiry s = _
    have hno : ¬ s.agt.expiryDue s.clock.millis = true := by
      rw [Agent.expiryDue_iff]
      rintro ⟨hmode, x, t, hsession, htimer, hdue⟩
      exact absurd hdue (Nat.not_le.mpr (hnot hmode x t hsession htimer))
    exact if_neg hno
  · show execPacingExpiry s = _
    exact if_neg (Nat.not_le.mpr hpacing)
  · show execNoticeRaise k d s = _
    refine Eq.trans (State.onMsg_of_takeFirst _ h) ?_
    simp only [State.took, List.append_nil] <;> rfl
  · rintro pre n post rfl hpre hn
    exact raiseIn_of_pending hpre hn
  · intro a
    have hexec : execPacingExpiry s = .next (s.withAgt a.handOut).outputChoice := if_pos hpacing
    have hnotices : a.notices = s.agt.notices := rfl
    show execPacingExpiry s = _
    rw [hexec, Agent.handOut_eq, hnotices]
    cases s.agt.notices <;> rfl

/-! ## The releases of a reference taken together (R109) -/

section Releases
variable {s : State} {ref : FrameRef} {r : FrameRec}

theorem State.releaseRef_of_none (h : s.adm.recordOf ref = none) : s.releaseRef ref = s := by
  simp only [State.releaseRef, h]

theorem State.releaseRef_of_last (h : s.adm.recordOf ref = some r) (hcount : r.count ≤ 1) :
    s.releaseRef ref =
      { s with adm := s.adm.returnBlocks r, net := s.net ++ if r.watch = true then [.watchReturned] else [] } := by
  simp only [State.releaseRef, h, if_pos hcount] <;> rfl

theorem State.releaseRef_of_more (h : s.adm.recordOf ref = some r) (hcount : 1 < r.count) :
    s.releaseRef ref = { s with adm := s.adm.updRecord ref fun x => { x with count := x.count - 1 } } := by
  simp only [State.releaseRef, h, if_neg (Nat.not_le.mpr hcount)] <;> rfl

end Releases

section Counted
variable {a : Admission} {ref : FrameRef} {r : FrameRec}

/-- The admission unit with the count of a reference's record lowered by `k`. -/
def Admission.lower (a : Admission) (ref : FrameRef) (k : Nat) : Admission :=
  a.updRecord ref fun x => { x with count := x.count - k }

theorem Admission.lower_zero : a.lower ref 0 = a := by
  have hid : ∀ x : FrameRec, (if x.id = ref.id then { x with count := x.count - 0 } else x) = x := fun x => ite_self x
  unfold Admission.lower Admission.updRecord
  split
  · simp only [hid, List.map_id']
  · rfl

theorem Admission.lower_lower (j k : Nat) : (a.lower ref j).lower ref k = a.lower ref (j + k) := by
  unfold Admission.lower Admission.updRecord
  by_cases hrestart : ref.restart = a.restarts
  · simp only [if_pos hrestart, List.map_map]
    congr 1
    refine List.map_congr_left fun x _ => ?_
    by_cases hx : x.id = ref.id <;> simp [hx, Nat.sub_sub]
  · simp only [if_neg hrestart]

theorem Admission.recordOf_lower (h : a.recordOf ref = some r) (k : Nat) :
    (a.lower ref k).recordOf ref = some { r with count := r.count - k } := by
  obtain ⟨hrestart, -, hid⟩ := Admission.recordOf_some h
  unfold Admission.lower
  rw [Admission.updRecord_of_recordOf h]
  simp only [Admission.recordOf, if_pos hrestart, List.find?_map] at h ⊢
  have hkeep : ((fun x : FrameRec => x.id == ref.id) ∘ fun x => if x.id = ref.id then { x with count := x.count - k } else x) =
      fun x : FrameRec => x.id == ref.id := by
    funext x
    by_cases hx : x.id = ref.id <;> simp [hx]
  rw [hkeep, h, Option.map_some, if_pos hid]

/-- The blocks returned are the record's, whatever its count (R109). -/
theorem Admission.returnBlocks_lower (h : a.recordOf ref = some r) (k : Nat) :
    (a.lower ref k).returnBlocks { r with count := r.count - k } = a.returnBlocks r := by
  obtain ⟨hrestart, -, hid⟩ := Admission.recordOf_some h
  have hothers : ∀ l : List FrameRec,
      (l.map fun x => if x.id = ref.id then { x with count := x.count - k } else x).filter (fun x => !(x.id == r.id)) =
        l.filter fun x => !(x.id == r.id) := by
    intro l
    rw [hid]
    induction l with
    | nil => rfl
    | cons x l ih =>
      by_cases hx : x.id = ref.id
      · simp [hx, ih]
      · simp [hx, ih]
  unfold Admission.lower
  rw [Admission.updRecord_of_recordOf h, Admission.returnBlocks_eq, Admission.returnBlocks_eq]
  simp only [hothers]

theorem Admission.recordOf_returnBlocks (h : a.recordOf ref = some r) : (a.returnBlocks r).recordOf ref = none := by
  obtain ⟨hrestart, -, hid⟩ := Admission.recordOf_some h
  rw [Admission.recordOf_eq_none, Admission.returnBlocks_eq]
  refine .inr fun x hx => ?_
  rw [← hid]
  simpa using (List.mem_filter.mp hx).2

end Counted

section Together
variable {s : State} {ref : FrameRef} {r : FrameRec}

theorem State.releaseRef_iterate_of_none (h : s.adm.recordOf ref = none) (k : Nat) :
    (fun t => State.releaseRef t ref)^[k] s = s :=
  Function.iterate_fixed (State.releaseRef_of_none h) k

/-- Fewer releases than references lower the count. -/
theorem State.releaseRef_iterate_of_more (h : s.adm.recordOf ref = some r) {k : Nat} (hk : k = 0 ∨ k < r.count) :
    (fun t => State.releaseRef t ref)^[k] s = { s with adm := s.adm.lower ref k } := by
  induction k with
  | zero => rw [Admission.lower_zero]; rfl
  | succ k ih =>
    have hlt : k + 1 < r.count := hk.resolve_left (Nat.succ_ne_zero k)
    rw [Function.iterate_succ_apply', ih (.inr (by omega))]
    refine (State.releaseRef_of_more (s := { s with adm := s.adm.lower ref k }) (Admission.recordOf_lower h k)
      (by simp only; omega)).trans ?_
    rw [← Admission.lower_lower k 1] <;> rfl

/-- As many releases as references return the blocks, once, and answer a watch. -/
theorem State.releaseRef_iterate_of_last (h : s.adm.recordOf ref = some r) {k : Nat} (hpos : k ≠ 0) (hk : r.count ≤ k) :
    (fun t => State.releaseRef t ref)^[k] s =
      { s with adm := s.adm.returnBlocks r, net := s.net ++ if r.watch = true then [.watchReturned] else [] } := by
  have hbefore : r.count - 1 = 0 ∨ r.count - 1 < r.count := by omega
  have hsplit : k = (k - 1 - (r.count - 1)) + 1 + (r.count - 1) := by omega
  rw [hsplit, Function.iterate_add_apply, State.releaseRef_iterate_of_more h hbefore, Function.iterate_succ_apply,
    State.releaseRef_of_last (s := { s with adm := s.adm.lower ref (r.count - 1) }) (Admission.recordOf_lower h _)
      (by simp only; omega), Admission.returnBlocks_lower h]
  exact State.releaseRef_iterate_of_none (s := { s with adm := s.adm.returnBlocks r, net := _ })
    (Admission.recordOf_returnBlocks h) _

end Together

/-- The releases of a reference on their way, taken together (R109, log 28). -/
theorem State.takeReleases_eq (s : State) (ref : FrameRef) :
    s.takeReleases ref =
      (fun t => State.releaseRef t ref)^[s.net.countP fun m => m == .release ref]
        { s with net := s.net.filter fun m => m ≠ .release ref } := by
  have hothers : (s.net.filter fun m => !(m == .release ref)) = s.net.filter fun m => m ≠ .release ref :=
    List.filter_congr fun m _ => by by_cases hm : m = .release ref <;> simp [hm]
  rw [State.takeReleases, List.foldl_const, ← List.countP_eq_length_filter, hothers]

/-! ## The output (R165 to R168, R175, R212) -/

/-- The frame and the path that the free output is given (R166 to R168). -/
theorem State.putOut_eq (s : State) (reply restart toT : Bool) (f : List Byte) :
    s.putOut reply restart toT f =
      if toT then
        { s with
          agt := { s.agt with output := some { reply := reply, restart := restart, path := .toT (f ++ crcBytes f) none } },
          net := s.net ++ [.reserveGrant .agent 0 (f ++ crcBytes f).length] }
      else
        { s with
          agt := { s.agt with output := some { reply := reply, restart := restart, path := .toLanes } },
          rep := { s.rep with handoff := some { reply := reply, bytes := f } } } := by
  cases toT <;> rfl

section Output
variable {s : State} {o : OutFrame} (houtput : s.agt.output = some o)
include houtput

theorem State.agentReserveAnswer_none {bytes : List Byte} (hpath : o.path = .toT bytes none) :
    s.agentReserveAnswer none = (s.countUnsent.freeOutput o).afterOutput o true := by
  obtain ⟨reply, restart, path⟩ := o
  cases hpath
  simp only [State.agentReserveAnswer, houtput]

theorem State.agentReserveAnswer_some {bytes : List Byte} (hpath : o.path = .toT bytes none) (ref : FrameRef) :
    s.agentReserveAnswer (some ref) =
      ((s.writeFrame ref bytes).withAgt { s.agt with output := some { o with path := .toT bytes (some ref) } }).send
        [.enqueue { port := .t, cls := frameClass bytes, ref := ref, mark := none, strip := false, tag := .output }] := by
  obtain ⟨reply, restart, path⟩ := o
  cases hpath
  simp only [State.agentReserveAnswer, houtput]

theorem State.agentEnqueueAnswer_placed {bytes : List Byte} {own : FrameRef} (hpath : o.path = .toT bytes (some own))
    (ref : FrameRef) :
    s.agentEnqueueAnswer ref .placed =
      ((s.send ((if o.restart = true then [.watch ref] else []) ++ [.release ref])).freeOutput o).afterOutput o false := by
  obtain ⟨reply, restart, path⟩ := o
  cases hpath
  simp only [State.agentEnqueueAnswer, houtput]

theorem State.agentEnqueueAnswer_refused {bytes : List Byte} {own : FrameRef} (hpath : o.path = .toT bytes (some own))
    (ref : FrameRef) {r : EnqResult} (hr : r ≠ .placed) :
    s.agentEnqueueAnswer ref r =
      ((((s.send [.release ref]).frameReleased o ref).countUnsent).freeOutput o).afterOutput o true := by
  obtain ⟨reply, restart, path⟩ := o
  cases hpath
  cases r with
  | placed => exact absurd rfl hr
  | _ => simp only [State.agentEnqueueAnswer, houtput]

theorem State.handoffAnswer_of_lanes (hpath : o.path = .toLanes) (r : HandoffResult) :
    s.handoffAnswer r = match r with
      | .sent ref copies =>
        if copies = 0 then ((s.frameReleased o ref).freeOutput o).afterOutput o true
        else ((s.send (if o.restart = true then [.watch ref] else [])).freeOutput o).afterOutput o false
      | .unsent => (s.freeOutput o).afterOutput o true
      | .abandoned => (s.freeOutput o).afterOutput o false := by
  obtain ⟨reply, restart, path⟩ := o
  cases hpath
  cases r with
  | sent ref copies => cases copies <;> simp only [State.handoffAnswer, houtput] <;> rfl
  | _ => simp only [State.handoffAnswer, houtput]

end Output

/-- The releases of a reference taken together, case by case (R109, log 28). -/
theorem State.takeReleases_outcome (s : State) (ref : FrameRef) :
    let k := s.net.countP fun m => m == .release ref
    let others := s.net.filter fun m => m ≠ .release ref
    s.takeReleases ref = (match s.adm.recordOf ref with
      | none => { s with net := others }
      | some r =>
        if k = 0 then s
        else if r.count ≤ k then
          { s with adm := s.adm.returnBlocks r, net := others ++ if r.watch = true then [.watchReturned] else [] }
        else { s with adm := s.adm.updRecord ref fun x => { x with count := x.count - k }, net := others }) := by
  intro k others
  rw [State.takeReleases_eq]
  cases hr : s.adm.recordOf ref with
  | none => exact State.releaseRef_iterate_of_none (s := { s with net := others }) hr k
  | some r =>
    by_cases hk : k = 0
    · have hall : others = s.net := List.filter_eq_self.mpr fun m hm => by
        have hnot := List.countP_eq_zero.mp hk m hm
        simpa using hnot
      simp only [if_pos hk]
      show (fun t => State.releaseRef t ref)^[k] { s with net := others } = s
      rw [hk, hall] <;> rfl
    · simp only [if_neg hk]
      by_cases hcount : r.count ≤ k
      · rw [if_pos hcount]
        exact State.releaseRef_iterate_of_last (s := { s with net := others }) hr hk hcount
      · rw [if_neg hcount]
        exact State.releaseRef_iterate_of_more (s := { s with net := others }) hr (.inr (Nat.lt_of_not_le hcount))

/-- Settles O58. -/
theorem repliesAndNoticesShareOneOutput : Obligations.RepliesAndNoticesShareOneOutput := by
  refine ⟨fun s h h' st detail results hhand => ?_, fun s q st detail => ?_, ?_, fun s => ?_, State.takeReleases_outcome,
    fun s rest o houtput => ?_⟩
  · rw [State.answer, Agent.setStage_of_hand hhand] <;> rfl
  · obtain ⟨token, number, kind, side⟩ := q
    cases kind <;> rfl
  · intro s side token number kind st detail results restart p
    rfl
  · intro frame put
    cases houtput : s.agt.output with
    | some o => simp only [State.outputChoice, houtput]
    | none =>
      cases hready : s.agt.ready with
      | some r =>
        simp only [State.outputChoice, houtput, hready]
        exact State.putOut_eq _ _ _ _ _
      | none =>
        cases hhanded : s.agt.handed with
        | some h =>
          simp only [State.outputChoice, houtput, hready, hhanded]
          exact State.putOut_eq _ _ _ _ _
        | none => simp only [State.outputChoice, houtput, hready, hhanded]
  · intro ended released after
    have htook : s.took rest [] = { s with net := rest } := by simp only [State.took, List.append_nil]
    have hsent : ∀ t : State, t.agt = s.agt → t.freeOutput o = ended false t := fun t ht => by
      simp only [State.freeOutput, ht] <;> rfl
    have hunsent : ∀ t : State, t.agt = s.agt → t.countUnsent.freeOutput o = ended true t := fun t ht => by
      simp only [State.freeOutput, State.countUnsent, State.withAgt, ht] <;> rfl
    have hafter : ∀ (t : State) (fire : Bool), t.afterOutput o fire = after fire t := fun t fire => by
      simp only [State.afterOutput, Bool.and_eq_true] <;> rfl
    have hreleased : ∀ (t : State) (ref : FrameRef), t.agt = s.agt → (t.frameReleased o ref).agt = s.agt :=
      fun t ref ht => by
        unfold State.frameReleased
        split
        · rw [(State.takeReleases_frame t ref).1]
          exact ht
        · exact ht
    refine ⟨fun n bytes hpath => ⟨fun h => ?_, fun ref h => ?_⟩, fun bytes own ref r hpath h => ⟨fun hr => ?_, fun hr => ?_⟩,
      fun r hpath h => ?_⟩
    · show execAgentReserveGrantAnswer s = _
      refine Eq.trans (State.onMsg_of_takeFirst _ h) (congrArg Host.Outcome.next ?_)
      rw [htook]
      exact (State.agentReserveAnswer_none (s := { s with net := rest }) houtput hpath).trans
        ((hafter _ _).trans (congrArg (after true) (hunsent _ rfl)))
    · show execAgentReserveGrantAnswer s = _
      refine Eq.trans (State.onMsg_of_takeFirst _ h) (congrArg Host.Outcome.next ?_)
      exact State.agentReserveAnswer_some (s := { s with net := rest }) houtput hpath ref
    · subst hr
      show execAgentEnqueueAnswer s = _
      refine Eq.trans (State.onMsg_of_takeFirst _ h) (congrArg Host.Outcome.next ?_)
      exact (State.agentEnqueueAnswer_placed (s := { s with net := rest }) houtput hpath ref).trans
        ((hafter _ _).trans (congrArg (after false) (hsent _ rfl)))
    · show execAgentEnqueueAnswer s = _
      refine Eq.trans (State.onMsg_of_takeFirst _ h) (congrArg Host.Outcome.next ?_)
      exact (State.agentEnqueueAnswer_refused (s := { s with net := rest }) houtput hpath ref hr).trans
        ((hafter _ _).trans (congrArg (after true) (hunsent _ (hreleased _ ref rfl))))
    · show execHandoffAnswer s = _
      refine Eq.trans (State.onMsg_of_takeFirst _ h) (congrArg Host.Outcome.next ?_)
      refine (State.handoffAnswer_of_lanes (s := { s with net := rest }) houtput hpath r).trans ?_
      rw [htook]
      cases r with
      | sent ref copies =>
        have hnone := hsent _ (hreleased { s with net := rest } ref rfl)
        have hplaced := hsent (s.took rest (if o.restart = true then [.watch ref] else [])) rfl
        simp only [hafter]
        by_cases hcopies : copies = 0
        · simp only [if_pos hcopies]
          rw [hnone] <;> rfl
        · simp only [if_neg hcopies]
          exact congrArg (after false) hplaced
      | unsent => exact (hafter _ _).trans (congrArg (after true) (hsent _ rfl))
      | abandoned => exact (hafter _ _).trans (congrArg (after false) (hsent _ rfl))

end Sys2Proof.Machine
end
